-- ==== Sys2Proof/Word.lean ====
section
/-! DEFINITION. The two sizes of data the block moves: a byte of a frame or response, and a 32-bit
descriptor or cursor value (00_scope.md R10, R11; 30_encoding.md R89). -/

namespace Sys2Proof

/-- One byte of a frame or of a response (R11). -/
abbrev Byte := BitVec 8

/-- A 32-bit quantity: a descriptor word of `SEQ_ROM` (R63, R89), the cursor `CUR` (R25), a counter (R212). -/
abbrev Word := BitVec 32

end Sys2Proof
end

