-- ==== Sys2Proof/Config.lean ====
section
/-! DEFINITION. The implementation parameters of 00_scope.md R8, the catalog ids of 30_encoding.md R86,
the delay classes of 40_channel.md R118, the channel's answers (40_channel.md R111, R112, R114), and the
free values: constants without a body for what the spec leaves OPEN and for what the channel answers. -/

namespace Sys2Proof

/-- The command catalog's entries, ids 0 to 8 (R86); ids 9 to 15 are reserved and name nothing. -/
inductive CatalogId where
  | magic | handshake | baudSwitch | identity | status | sub1 | sub2 | sub3 | flashRead
  deriving DecidableEq, Repr, Inhabited

/-- Every catalog id, in the order of R86. -/
def CatalogId.all : List CatalogId :=
  [.magic, .handshake, .baudSwitch, .identity, .status, .sub1, .sub2, .sub3, .flashRead]

/-- The four delay classes (R91, R118). -/
inductive DelayClass where
  | settle | hsRetry | xRetry | postHs
  deriving DecidableEq, Repr, Inhabited

/-- The executor's print variant (R14, R89 VAR): 0 silent, 1 verbose. -/
inductive Variant where
  | silent | verbose
  deriving DecidableEq, Repr, Inhabited

/-- The answer of `ChConfigure` (R111). -/
inductive CfgResult where
  | ok | fail
  deriving DecidableEq, Repr, Inhabited

/-- The result of `ChSend` as the block sees it (R112). -/
inductive SendResult where
  | ok | timeout
  deriving DecidableEq, Repr, Inhabited

/-- The channel's answer to one send: transmission completed, or a timeout of which the first `sent` bytes
reached the wire (R112, R113). -/
inductive SendAnswer where
  | ok
  | timeout (sent : Nat)
  deriving DecidableEq, Repr, Inhabited

/-- One frame of the catalog: its bytes `FRAME[c]` and its declared length `DECL_LEN[c]` (R8, R85). -/
structure CatalogEntry where
  bytes   : List Byte
  declLen : Nat
  deriving DecidableEq, Repr, Inhabited

/-- The command catalog (R86), one entry per id. -/
structure Catalog where
  magic      : CatalogEntry
  handshake  : CatalogEntry
  baudSwitch : CatalogEntry
  identity   : CatalogEntry
  status     : CatalogEntry
  sub1       : CatalogEntry
  sub2       : CatalogEntry
  sub3       : CatalogEntry
  flashRead  : CatalogEntry
  deriving DecidableEq, Repr, Inhabited

/-- The catalog is indexed by catalog id (R86). -/
def Catalog.entry (k : Catalog) : CatalogId → CatalogEntry
  | .magic => k.magic
  | .handshake => k.handshake
  | .baudSwitch => k.baudSwitch
  | .identity => k.identity
  | .status => k.status
  | .sub1 => k.sub1
  | .sub2 => k.sub2
  | .sub3 => k.sub3
  | .flashRead => k.flashRead

/-- `LINE_PARAMS` (R8, R111): the values the block hands to the channel and never reads. Which number stands
for which parity, mode or pin is the platform's business. -/
structure LineParams where
  baudRate        : Nat
  dataBits        : Nat
  parity          : Nat
  stopBits        : Nat
  flowControl     : Nat
  rtsCtsThreshold : Nat
  txLine          : Nat
  rxLine          : Nat
  rtsLine         : Nat
  ctsLine         : Nat
  inverted        : Bool
  deriving DecidableEq, Repr, Inhabited

/-- The durations of R8 and R250. No step reads one (R7). -/
structure Timing where
  txTicks     : Nat
  rxMs        : Nat
  xRetryTicks : Nat
  postHsMs    : Nat
  settle      : Nat
  hsRetry     : Nat
  tick        : Nat
  deriving DecidableEq, Repr, Inhabited

/-- The block's configuration (R8, R21, R233): fixed before reset, written by no step. `padStart` is the P of
R84: `none` where it has not been given. DESIGN CHOICE, safe (notes/assumptions/23.md): the spec gives P no range, and any
P may be given. -/
structure Config where
  rxcap         : Nat
  hOff          : Nat
  stride        : Word
  catalog       : Catalog
  addrOff       : Nat
  padStart      : Option Nat
  seqRom        : List Word
  maxAttempts   : Word
  checksumCheck : Bool
  line          : LineParams
  timing        : Timing
  deriving DecidableEq, Repr, Inhabited

namespace Config

/-- `FRAME[c]`. -/
def frame (g : Config) (c : CatalogId) : List Byte := (g.catalog.entry c).bytes

/-- `DECL_LEN[c]`. -/
def declLen (g : Config) (c : CatalogId) : Nat := (g.catalog.entry c).declLen

/-- `ROM_LEN`: how many words `SEQ_ROM` holds (R8, R36). -/
def romLen (g : Config) : Nat := g.seqRom.length

/-! Free values of the environment. `n` is the model's own draw counter: nothing is known of any answer. -/

/-- The outcome of a configure that no queued answer decides (R111). -/
opaque freeConfigure : Nat → CfgResult

/-- The outcome of a send that no queued answer decides, with the bytes of a timed-out frame (R112, R113). -/
opaque freeSend : Nat → SendAnswer

/-- The bytes of a receive that no queued answer decides (R114). -/
opaque freeReceive : Nat → List Byte

/-! Free values for the OPEN parameters of R8, used by the reference configuration only. -/

/-- A byte of `FRAME[c]` (91_not_in_source.md N1). -/
opaque openFrameByte : CatalogId → Nat → Byte

/-- The bytes of FLASH_READ before its address field, and so `ADDR_OFF` (N1, N11). -/
opaque openHead : List Byte

/-- The rest of `FRAME[c]`, and so `DECL_LEN[c]` (N1, N2). -/
opaque openTail : CatalogId → List Byte

/-- Line parameter values (91_not_in_source.md N15). -/
opaque openLine : LineParams

/-- `T_SETTLE`, `T_HSRETRY` and `TICK` (91_not_in_source.md N3). -/
opaque openSettle : Nat
opaque openHsRetry : Nat
opaque openTick : Nat

end Config

/-- `HS_ACK_LEN` (R8): the handshake acknowledgment's length, fixed. -/
def hsAckLen : Nat := 12

/-- `MAGIC_LEN` (R8, R81): the magic marker's length, fixed. -/
def magicLen : Nat := 4

/-- `HDR_LEN` (R8, R82): the generic frame header's length, fixed. No rule reads a header. -/
def hdrLen : Nat := 5

end Sys2Proof
end

