-- ==== Sys2Proof/Machine/Reference.lean ====
section
/-! DEFINITION. The reference configuration: the values of 00_scope.md R8 and the reference sequence ROM of
42_sequencer.md R190. What R8 leaves OPEN is a free value here, within R8's constraints and without any other
(notes/assumptions/2.md). Only `State.reset` and `decodeTableWord` use this configuration; the machine itself takes any
configuration. -/

namespace Sys2Proof

/-- The reference `SEQ_ROM` (R190), one word per descriptor. -/
def referenceRom : List Word :=
  [ 0x10000000#32,   -- CFG
    0x20000000#32,   -- DLY SETTLE
    0x30000000#32,   -- HSK
    0x43400014#32,   -- EXE IDENTITY, 20, V
    0x4540000C#32,   -- EXE SUB1, 12, V
    0x4640000C#32,   -- EXE SUB2, 12, V
    0x4740000C#32,   -- EXE SUB3, 12, V
    0x20000003#32,   -- DLY POSTHS
    0x4800003D#32,   -- EXE FLASH_READ, 0x3D, S
    0x50000000#32,   -- ADV
    0x60000008#32 ]  -- JMP 8

/-- An entry declared as long as its bytes are. -/
def declared (bytes : List Byte) : CatalogEntry := { bytes := bytes, declLen := bytes.length }

/-- A frame of any length from 1 on, every byte OPEN (R8: `DECL_LEN[c] >= 1`). -/
def openEntry (c : CatalogId) : CatalogEntry :=
  declared (Config.openFrameByte c 0 :: Config.openTail c)

/-- Four OPEN bytes: the magic marker, or FLASH_READ's template address. -/
def openFour (c : CatalogId) : List Byte := (List.range 4).map (Config.openFrameByte c)

/-- A catalog with every byte OPEN, and every length and `ADDR_OFF` but MAGIC's 4 (R8, R81, R86). -/
def referenceCatalog : Catalog :=
  { magic      := { bytes := openFour .magic, declLen := magicLen }
    handshake  := openEntry .handshake
    baudSwitch := openEntry .baudSwitch
    identity   := openEntry .identity
    status     := openEntry .status
    sub1       := openEntry .sub1
    sub2       := openEntry .sub2
    sub3       := openEntry .sub3
    flashRead  := declared (Config.openHead ++ openFour .flashRead ++ Config.openTail .flashRead) }

/-- The reference configuration (R8). -/
def Config.reference : Config :=
  { rxcap := 1024
    hOff := 0x20
    stride := 0x1C#32
    catalog := referenceCatalog
    addrOff := Config.openHead.length
    padStart := none
    seqRom := referenceRom
    maxAttempts := 0#32
    checksumCheck := false
    line := { Config.openLine with inverted := true }
    timing :=
      { txTicks := 10, rxMs := 20, xRetryTicks := 10, postHsMs := 500
        settle := Config.openSettle, hsRetry := Config.openHsRetry, tick := Config.openTick } }

end Sys2Proof
end

