-- ==== Sys2Proof/Syntax.lean ====
section
/-! DEFINITION. The descriptor set `SPE-DESC v1`: one constructor per row of spec/opcode_table.json
(30_encoding.md R90, R91). -/

namespace Sys2Proof

/-- A descriptor. `expLen` and `target` are the 16-bit ARG field as encoded (R89). -/
inductive Instr where
  | cfg
  | dly (k : DelayClass)
  | hsk
  | exe (c : CatalogId) (expLen : BitVec 16) (v : Variant)
  | adv
  | jmp (target : BitVec 16)
  | stop
  deriving DecidableEq, Repr

end Sys2Proof
end

