-- ==== Sys2Proof/WellFormed.lean ====
section
/-! DEFINITION. Which descriptors are legal under a buffer capacity and a ROM length (30_encoding.md R91, R92).
The catalog id, the variant and the delay class are legal by their types. -/

namespace Sys2Proof

/-- R92's ranges that a type does not give: the expected length is at most `RXCAP`, the target is below `ROM_LEN`. -/
def Instr.wf (rxcap romLen : Nat) : Instr → Bool
  | .cfg => true
  | .dly _ => true
  | .hsk => true
  | .exe _ e _ => decide (e.toNat ≤ rxcap)
  | .adv => true
  | .jmp t => decide (t.toNat < romLen)
  | .stop => true

end Sys2Proof
end

