-- ==== Sys2Proof/Decode.lean ====
section
/-! DEFINITION. The descriptor encoding (30_encoding.md R89 to R94): the fields of a word, the total decoder, which
rejects an illegal word by name, the encoder, and the host's `decodeTableWord`. -/

namespace Sys2Proof

/-! ### Fields (R89) -/

/-- Bits 31:28. -/
def opField (w : Word) : BitVec 4 := w.extractLsb' 28 4
/-- Bits 27:24. -/
def cmdField (w : Word) : BitVec 4 := w.extractLsb' 24 4
/-- Bits 23:22. -/
def varField (w : Word) : BitVec 2 := w.extractLsb' 22 2
/-- Bits 21:16. -/
def rsvField (w : Word) : BitVec 6 := w.extractLsb' 16 6
/-- Bits 15:0. -/
def argField (w : Word) : BitVec 16 := w.extractLsb' 0 16

/-- A word made of its fields, the reserved field zero (R89). -/
def pack (op cmd : BitVec 4) (var : BitVec 2) (arg : BitVec 16) : Word :=
  (op ++ cmd ++ var ++ 0#6 ++ arg : BitVec 32)

/-! ### Operand codes -/

/-- Catalog ids (R86). -/
def CatalogId.code : CatalogId → BitVec 4
  | .magic => 0 | .handshake => 1 | .baudSwitch => 2 | .identity => 3 | .status => 4
  | .sub1 => 5 | .sub2 => 6 | .sub3 => 7 | .flashRead => 8

/-- Ids 9 to 15 are reserved (R86). -/
def CatalogId.ofCode (b : BitVec 4) : Option CatalogId :=
  match b.toNat with
  | 0 => some .magic | 1 => some .handshake | 2 => some .baudSwitch | 3 => some .identity | 4 => some .status
  | 5 => some .sub1 | 6 => some .sub2 | 7 => some .sub3 | 8 => some .flashRead
  | _ => none

/-- Print variants (R89, R91): the value of VAR. -/
def Variant.code : Variant → BitVec 2
  | .silent => 0
  | .verbose => 1

/-- VAR 2 and 3 are illegal (R89). -/
def Variant.ofCode (b : BitVec 2) : Option Variant :=
  match b.toNat with
  | 0 => some .silent
  | 1 => some .verbose
  | _ => none

/-- Delay classes (R91, R118). -/
def DelayClass.code : DelayClass → BitVec 16
  | .settle => 0 | .hsRetry => 1 | .xRetry => 2 | .postHs => 3

/-- A class above 3 is illegal (R91). -/
def DelayClass.ofCode (b : BitVec 16) : Option DelayClass :=
  match b.toNat with
  | 0 => some .settle | 1 => some .hsRetry | 2 => some .xRetry | 3 => some .postHs
  | _ => none

/-! ### The decoder (R93) -/

/-- Why a word is ILLEGAL (R92, R94). The spec has one outcome, ILLEGAL; the reasons' names are the model's own and no
step reads them. -/
inductive Illegal where
  /-- OP is 0x0 or 0x8 to 0xF (R90). -/
  | opCode
  /-- A field that must be zero is not (R92). -/
  | notZero
  /-- DLY with ARG above 3. -/
  | delayClass
  /-- EXE with CMD 9 to 15. -/
  | catalogId
  /-- EXE with VAR 2 or 3. -/
  | variant
  /-- EXE with ARG above `RXCAP`. -/
  | expectedLength
  /-- JMP with ARG not below `ROM_LEN`. -/
  | target
  deriving DecidableEq, Repr

/-- What `decode` answers: a descriptor, or ILLEGAL with the reason. -/
inductive Decoded where
  | instr (i : Instr)
  | illegal (why : Illegal)
  deriving DecidableEq, Repr

/-- The descriptor, where there is one. -/
def Decoded.instr? : Decoded → Option Instr
  | .instr i => some i
  | .illegal _ => none

/-- A descriptor with no operand: every bit below OP is zero (R93). -/
def decodePlain (w : Word) (i : Instr) : Decoded :=
  if w.extractLsb' 0 28 = 0#28 then .instr i else .illegal .notZero

/-- DLY (R93). -/
def decodeDly (w : Word) : Decoded :=
  if w.extractLsb' 16 12 = 0#12 then
    match DelayClass.ofCode (argField w) with
    | some k => .instr (.dly k)
    | none => .illegal .delayClass
  else .illegal .notZero

/-- EXE (R93). -/
def decodeExe (rxcap : Nat) (w : Word) : Decoded :=
  match CatalogId.ofCode (cmdField w) with
  | none => .illegal .catalogId
  | some c =>
    match Variant.ofCode (varField w) with
    | none => .illegal .variant
    | some v =>
      if rsvField w = 0#6 then
        if (argField w).toNat ≤ rxcap then .instr (.exe c (argField w) v) else .illegal .expectedLength
      else .illegal .notZero

/-- JMP (R93). -/
def decodeJmp (romLen : Nat) (w : Word) : Decoded :=
  if w.extractLsb' 16 12 = 0#12 then
    if (argField w).toNat < romLen then .instr (.jmp (argField w)) else .illegal .target
  else .illegal .notZero

/-- `decode(w)` (R93): total on every word, a function of the word, `RXCAP` and `ROM_LEN` alone. -/
def decode (rxcap romLen : Nat) (w : Word) : Decoded :=
  match (opField w).toNat with
  | 1 => decodePlain w .cfg
  | 2 => decodeDly w
  | 3 => decodePlain w .hsk
  | 4 => decodeExe rxcap w
  | 5 => decodePlain w .adv
  | 6 => decodeJmp romLen w
  | 7 => decodePlain w .stop
  | _ => .illegal .opCode

/-! ### The encoder (R89, R97) -/

/-- The operation code of a descriptor (R90). -/
def Instr.op : Instr → BitVec 4
  | .cfg => 0x1
  | .dly _ => 0x2
  | .hsk => 0x3
  | .exe _ _ _ => 0x4
  | .adv => 0x5
  | .jmp _ => 0x6
  | .stop => 0x7

/-- The word of a descriptor (R97). -/
def encode : Instr → Word
  | .cfg => pack 0x1 0 0 0
  | .dly k => pack 0x2 0 0 k.code
  | .hsk => pack 0x3 0 0 0
  | .exe c e v => pack 0x4 c.code v.code e
  | .adv => pack 0x5 0 0 0
  | .jmp t => pack 0x6 0 0 t
  | .stop => pack 0x7 0 0 0

/-! ### The opcode table's numbering -/

/-- The descriptor the decoder reads from the word `w` of `nbits` bits, under the reference `RXCAP` and `ROM_LEN`
(R8). Every descriptor is one 32-bit word, indexed by word and without a byte order (R63, R96), so the table's
bit numbers are the word's own. -/
def decodeTableWord (nbits w : Nat) : Option Instr :=
  (decode Config.reference.rxcap Config.reference.romLen (BitVec.ofNat 32 (w % 2 ^ nbits))).instr?

end Sys2Proof
end

