-- ==== Sys2Proof/Machine/Bytes.lean ====
section
/-! DEFINITION. Byte sequences and byte order (00_scope.md R11; 20_memory.md R60 to R62), and the cursor's
start value, which is read out of the catalog by them (10_state.md R40). -/

namespace Sys2Proof

/-- `bytes[a..b)` (R11): empty when `b <= a`. -/
def slice (l : List Byte) (a b : Nat) : List Byte := (l.drop a).take (b - a)

/-- Byte `k` of a 32-bit value: `v[8k+7:8k]` (R62). -/
def byteOf (v : Word) (k : Nat) : Byte := v.extractLsb' (8 * k) 8

/-- `LE32(v)` (R11): least significant byte first. -/
def le32 (v : Word) : List Byte := [byteOf v 0, byteOf v 1, byteOf v 2, byteOf v 3]

/-- `LE32⁻¹(s)` (R11). -/
def le32Inv (l : List Byte) : Word :=
  BitVec.ofNat 32 ((l.getD 0 0).toNat + 2 ^ 8 * (l.getD 1 0).toNat
    + 2 ^ 16 * (l.getD 2 0).toNat + 2 ^ 24 * (l.getD 3 0).toNat)

/-- `CURSOR_INIT` (R8, R40): the little-endian value of the FLASH_READ template at `ADDR_OFF`. Only a configuration that is
refused lacks one of the four bytes (R87 item 3); it reads as 0 (notes/assumptions/9.md). -/
def Config.cursorInit (g : Config) : Word :=
  le32Inv (slice (g.frame .flashRead) g.addrOff (g.addrOff + 4))

end Sys2Proof
end

