-- ==== Sys2Proof/Machine/Boot.lean ====
section
/-! DEFINITION. The check a configuration must pass before the block runs under it (30_encoding.md R87, R95; 00_scope.md R8;
70_reset_and_hazards.md R233; 60_exceptions.md R209). -/

namespace Sys2Proof

/-- Which check of the catalog a configuration fails. The spec has the one reason CATALOG (R209); these names are the
model's own. -/
inductive CatalogDefect where
  /-- R87 item 1: a frame's length is not its declared length. -/
  | frameLength
  /-- R87 item 2: `DECL_LEN[MAGIC]` is not 4. -/
  | magicLength
  /-- R87 item 3: the address field does not fit in FLASH_READ. -/
  | addressField
  /-- R87 item 4: a declared length is 0. -/
  | emptyFrame
  /-- R87 item 6: `ROM_LEN` is not in 1..255. -/
  | romLength
  /-- R87 item 6: `RXCAP` is not in 1..1024. -/
  | bufferCapacity
  /-- R87 item 7: a padding byte of FLASH_READ is not zero. -/
  | padding
  /-- R8's constraint: `H_OFF` is not below `RXCAP`. -/
  | headerOffset
  deriving DecidableEq, Repr, Inhabited

/-- Why a configuration is refused (R209). -/
inductive ConfigDefect where
  /-- `CHECKSUM_CHECK = on` (R95, R87 item 5). -/
  | checksumPolicy
  /-- The configuration fails a check of the catalog or of a parameter's range. -/
  | catalog (defect : CatalogDefect)
  deriving DecidableEq, Repr, Inhabited

/-- Item 1 of R87: `len(FRAME[c]) = DECL_LEN[c]` for every catalog id. -/
def Config.framesDeclared (g : Config) : Bool :=
  CatalogId.all.all fun c => decide ((g.frame c).length = g.declLen c)

/-- Item 4 of R87: no declared length is 0. -/
def Config.framesNonempty (g : Config) : Bool :=
  CatalogId.all.all fun c => decide (1 ≤ g.declLen c)

/-- Item 7 of R87: the FLASH_READ bytes from P on are zero. Applied once P is given. DESIGN CHOICE, safe
(notes/assumptions/23.md): R84 gives P no range, and the check takes any: a P below `ADDR_OFF + 4` asks for zeros in the
template's address field too, and a P from `DECL_LEN` on asks for nothing. -/
def Config.paddingZero (g : Config) : Bool :=
  match g.padStart with
  | none => true
  | some p => (slice (g.frame .flashRead) p (g.declLen .flashRead)).all (· == 0#8)

/-- Why a configuration is refused, if it is: CHECKSUM_POLICY wherever the checksum is on (R95), otherwise the first check
it fails, in R87's order, and then R8's constraint on `H_OFF`. -/
def Config.defect (g : Config) : Option ConfigDefect :=
  if g.checksumCheck then some .checksumPolicy
  else if g.framesDeclared = false then some (.catalog .frameLength)
  else if g.declLen .magic ≠ magicLen then some (.catalog .magicLength)
  else if ¬ g.addrOff + 4 ≤ g.declLen .flashRead then some (.catalog .addressField)
  else if g.framesNonempty = false then some (.catalog .emptyFrame)
  else if ¬ (1 ≤ g.romLen ∧ g.romLen ≤ 255) then some (.catalog .romLength)
  else if ¬ (1 ≤ g.rxcap ∧ g.rxcap ≤ 1024) then some (.catalog .bufferCapacity)
  else if g.paddingZero = false then some (.catalog .padding)
  else if ¬ g.hOff < g.rxcap then some (.catalog .headerOffset)
  else none

end Sys2Proof
end

