-- ==== Sys2Proof/Machine/State.lean ====
section
/-! DEFINITION. The machine's state: the registers of 10_state.md R23, `RXBUF` (R24), the two observation streams
(R22), the configuration the machine runs under (R21, R233) and the channel's pending answers (40_channel.md); the
faults and refusals a step can end in; and reset (R40, 70_reset_and_hazards.md R230). -/

namespace Sys2Proof.Machine

/-- `SUB`: which step comes next (R31). The reserved codes 11 to 15 have no constructor: no state holds one. -/
inductive Sub where
  | fetch | xSend | xRecv | xMatch | xDelay | hMagic | hReq | hRecv | hDelay | halted | faulted
  deriving DecidableEq, Repr, Inhabited

/-- `LAST_EVT` (R32). The reserved codes 6 and 7 have no constructor. -/
inductive LastEvt where
  | none | txTimeout | lenMismatch | hsNotReady | matched | hsAck
  deriving DecidableEq, Repr, Inhabited

/-- `FAULT` (60_exceptions.md R201). The reserved code 7 has no constructor. -/
inductive FaultCode where
  | none | configFatal | illegalDescriptor | seqOverrun | notConfigured | reconfig | retryExhausted
  deriving DecidableEq, Repr, Inhabited

/-- An entry of `TRACE` (R22). -/
inductive TraceEvent where
  | cfg (res : CfgResult)
  | send (c : CatalogId) (bytes : List Byte) (res : SendResult)
  | recv (n : Nat) (bytes : List Byte)
  | delay (k : DelayClass)
  deriving DecidableEq, Repr

/-- An entry of `CONSOLE` (40_channel.md R120). -/
inductive ConsoleRecord where
  /-- `C_TXTO(c)` -/
  | txTimeout (c : CatalogId)
  /-- `C_VLEN(n)` -/
  | vLen (n : Nat)
  /-- `C_VDUMP(b)` -/
  | vDump (bytes : List Byte)
  /-- `C_VCMP(n, e, ok)` -/
  | vCmp (n e : Nat) (ok : Bool)
  /-- `C_SPAYLOAD(b)` -/
  | sPayload (bytes : List Byte)
  deriving DecidableEq, Repr

/-- A byte memory: (index, byte) pairs, indices strictly rising. An index that is not listed holds no value (R24). -/
abbrev Memory := List Host.Cell

/-- The canonical form: indices strictly rise. No listed entry can equal what an unlisted index reads as, since an
unlisted index reads as no value and an entry is a byte. -/
def Memory.wf : Memory → Bool
  | [] => true
  | [_] => true
  | a :: b :: rest => decide (a.1 < b.1) && Memory.wf (b :: rest)

/-- The byte channel, an agent of the environment (40_channel.md R121). The lists are answers the environment has
already chosen, in the order the block will consume them; when a list is empty the answer is a free value of
Config at index `drawn`, which every such draw advances. `wire` is what has reached the wire (R113), an observation
that no step reads. None of this is block state (10_state.md R38). -/
structure Channel where
  configures : List CfgResult
  sends      : List SendAnswer
  receives   : List (List Byte)
  drawn      : Nat
  wire       : List Byte
  deriving DecidableEq, Repr, Inhabited

/-- A channel with nothing decided and nothing sent. -/
def Channel.idle : Channel :=
  { configures := [], sends := [], receives := [], drawn := 0, wire := [] }

/-- The state (R23, R24, R22). `STATUS` is a view of these fields (Flags.lean). -/
structure State where
  /-- The configuration: written by no step (R21). -/
  cfg      : Config
  /-- The mark of a refused configuration (60_exceptions.md R208): set at reset, written by no step. -/
  refused  : Option ConfigDefect
  /-- `SEQ_PC` -/
  seqPc    : BitVec 8
  /-- `SUB` -/
  sub      : Sub
  /-- `CMDSEL` -/
  cmdsel   : CatalogId
  /-- `VARSEL` -/
  varsel   : Variant
  /-- `EXP` -/
  exp      : BitVec 11
  /-- `RLEN` -/
  rlen     : BitVec 11
  /-- `CUR` -/
  cur      : Word
  /-- `ATTEMPTS` -/
  attempts : Word
  /-- `FAULT` -/
  fault    : FaultCode
  /-- `FAULT_PC` -/
  faultPc  : BitVec 8
  /-- `LAST_EVT` -/
  lastEvt  : LastEvt
  /-- `CHCFG` -/
  chcfg    : Bool
  /-- `HSDONE` -/
  hsdone   : Bool
  /-- `TXTO` -/
  txto     : Bool
  /-- `MATCH` -/
  matched  : Bool
  /-- `RXBUF` -/
  rxbuf    : Memory
  /-- `TRACE`, oldest first -/
  trace    : List TraceEvent
  /-- `CONSOLE`, oldest first -/
  console  : List ConsoleRecord
  /-- The environment's byte channel. -/
  chan     : Channel
  deriving DecidableEq, Repr

/-- The state after reset under the configuration `g` (R40, R230). -/
def State.resetWith (g : Config) : State :=
  { cfg := g, refused := g.defect, seqPc := 0, sub := .fetch, cmdsel := .magic, varsel := .silent, exp := 0, rlen := 0
    cur := g.cursorInit, attempts := 0, fault := .none, faultPc := 0, lastEvt := .none
    chcfg := false, hsdone := false, txto := false, matched := false
    rxbuf := [], trace := [], console := [], chan := .idle }

/-- The state after reset in the reference configuration (R8, R40). Whatever its OPEN values are, that configuration passes
the check, so the mark is written as the value it has: `reset_eq` in Laws/Boot.lean proves that this is
`State.resetWith Config.reference`. -/
def State.reset : State := { State.resetWith Config.reference with refused := none }

/-- Why a step stops without a next state. A fault of the hardware (R201) is not one of these: it is a next state
with `SUB = FAULTED` (R203). -/
inductive Fault where
  /-- Raised by `subStep` when `SUB = HALTED`: the block has no step (42_sequencer.md R163). Safe: the run has ended. -/
  | halted
  /-- Raised by `subStep` when `SUB = FAULTED`, with the fault's code: the block has no step (R163, R204). Safe. -/
  | faulted (code : FaultCode)
  /-- Raised by X_MATCH's prints on a read of an `RXBUF` index not below `RLEN`, or of a cell that holds no value
  (R24, 20_memory.md R67). No rule's step reaches it from a state a run reaches. Safe. -/
  | rxRead
  deriving DecidableEq, Repr

/-- What the model gives no meaning (60_exceptions.md R208, R209). -/
inductive Refusal where
  /-- An instruction without a meaning yet. Raised by no arm of `exec`: every instruction has its meaning. Safe. -/
  | notModelled (mnemonic : String)
  /-- Raised by `execExe`: the fetch of an EXE that names BAUD_SWITCH (R95, R209). Safe. -/
  | baudSwitch
  /-- Raised by `step`: a configuration with `CHECKSUM_CHECK = on` (R95, R209). Safe. -/
  | checksumPolicy
  /-- Raised by `step`: a configuration that fails R87 or R8, with the check it fails first (R209). Safe. -/
  | catalog (defect : CatalogDefect)
  deriving DecidableEq, Repr

end Sys2Proof.Machine
end

