-- ==== Sys2Proof/Machine/Operands.lean ====
section
/-! DEFINITION. Operand forms: the composed frame (20_memory.md R64), the operand widths (30_encoding.md R91), the
saturating attempt count (60_exceptions.md R212), the silent print range (41_executor.md R138), and the numbered
register view (10_state.md R23). -/

namespace Sys2Proof

/-- `Frame(c)` (R64): the bytes a send of catalog frame `c` transmits while the cursor holds `cur`. -/
def Config.composed (g : Config) (cur : Word) (c : CatalogId) : List Byte :=
  if c = .flashRead then
    slice (g.frame c) 0 g.addrOff ++ le32 cur ++ slice (g.frame c) (g.addrOff + 4) (g.declLen c)
  else slice (g.frame c) 0 (g.declLen c)

namespace Machine

/-- `Frame(c)` in a state: the cursor is `CUR` (R64, R78). -/
def State.frame (s : State) (c : CatalogId) : List Byte := s.cfg.composed s.cur c

/-- EXE's expected length as `EXP` holds it: `w[15:0]`, which a legal word keeps within 11 bits (R91). -/
def expOperand (e : BitVec 16) : BitVec 11 := e.setWidth 11

/-- JMP's target as `SEQ_PC` holds it: `w[15:0]`, which a legal word keeps below `ROM_LEN <= 255` (R91, R27). -/
def targetOperand (t : BitVec 16) : BitVec 8 := t.setWidth 8

/-- `min(ATTEMPTS + 1, 2^32 − 1)` (R132, R171, R212). -/
def countAttempt (a : Word) : Word := BitVec.ofNat 32 (min (a.toNat + 1) (2 ^ 32 - 1))

/-- How many bytes the silent print shows: the range `H_OFF .. RLEN − 1` (exclusive), computed on integers and empty
when its end is not above its start (R138). -/
def silentCount (hOff rlen : Nat) : Nat := (((rlen : Int) - 1) - (hOff : Int)).toNat

/-- The register file's names (R23). -/
inductive Reg where
  | status | seqPc | sub | cmdsel | varsel | exp | rlen | cur | attempts | fault | faultPc | lastEvt
  | chcfg | hsdone | txto | matched
  deriving DecidableEq, Repr

/-- Register numbers (R23). -/
def Reg.number : Reg → Nat
  | .status => 0 | .seqPc => 1 | .sub => 2 | .cmdsel => 3 | .varsel => 4 | .exp => 5 | .rlen => 6 | .cur => 7
  | .attempts => 8 | .fault => 9 | .faultPc => 10 | .lastEvt => 11 | .chcfg => 12 | .hsdone => 13 | .txto => 14
  | .matched => 15

/-- Register widths (R23). -/
def Reg.width : Reg → Nat
  | .status => 32 | .seqPc => 8 | .sub => 4 | .cmdsel => 4 | .varsel => 1 | .exp => 11 | .rlen => 11 | .cur => 32
  | .attempts => 32 | .fault => 3 | .faultPc => 8 | .lastEvt => 3 | .chcfg => 1 | .hsdone => 1 | .txto => 1
  | .matched => 1

end Machine

end Sys2Proof
end

