-- ==== Sys2Proof/Machine/Flags.lean ====
section
/-! DEFINITION. Flags, codes and comparisons: the response matcher (41_executor.md R136), the handshake test
(42_sequencer.md R172), the codes of `SUB`, `LAST_EVT` and `FAULT` (10_state.md R31, R32; 60_exceptions.md R201), the
status word (R33) and the value each numbered register reads as (R23). -/

namespace Sys2Proof.Machine

/-- The matcher (R136): `match(n, e) = (e = 0) or (n = e)`. -/
def lengthMatches (n e : BitVec 11) : Bool := decide (e = 0) || decide (n = e)

/-- The handshake acceptance test (R172): `RLEN = HS_ACK_LEN`, without the sentinel. -/
def handshakeAccepts (n : BitVec 11) : Bool := decide (n = BitVec.ofNat 11 hsAckLen)

/-- `MAX_ATTEMPTS ≠ 0 and ATTEMPTS = MAX_ATTEMPTS` (R132, R171). -/
def attemptsExhausted (limit attempts : Word) : Bool := decide (limit ≠ 0) && decide (attempts = limit)

/-- `SUB` codes (R31). -/
def Sub.code : Sub → BitVec 4
  | .fetch => 0 | .xSend => 1 | .xRecv => 2 | .xMatch => 3 | .xDelay => 4 | .hMagic => 5 | .hReq => 6 | .hRecv => 7
  | .hDelay => 8 | .halted => 9 | .faulted => 10

/-- `LAST_EVT` codes (R32). -/
def LastEvt.code : LastEvt → BitVec 3
  | .none => 0 | .txTimeout => 1 | .lenMismatch => 2 | .hsNotReady => 3 | .matched => 4 | .hsAck => 5

/-- `FAULT` codes (R201). -/
def FaultCode.code : FaultCode → BitVec 3
  | .none => 0 | .configFatal => 1 | .illegalDescriptor => 2 | .seqOverrun => 3 | .notConfigured => 4
  | .reconfig => 5 | .retryExhausted => 6

/-- `VARSEL` as its one bit (R23). -/
def variantBit : Variant → Bool
  | .silent => false
  | .verbose => true

/-- `STATUS` (R33): bits 31:24, 11 and 7 read 0. -/
def State.status (s : State) : Word :=
  (0#8 ++ s.seqPc ++ BitVec.ofBool s.matched ++ BitVec.ofBool s.txto ++ BitVec.ofBool s.hsdone
    ++ BitVec.ofBool s.chcfg ++ 0#1 ++ s.fault.code ++ 0#1 ++ s.lastEvt.code ++ s.sub.code : BitVec 32)

/-- What a register reads as, zero-extended to 32 bits (R23). -/
def State.reg (s : State) : Reg → Word
  | .status => s.status
  | .seqPc => s.seqPc.setWidth 32
  | .sub => s.sub.code.setWidth 32
  | .cmdsel => s.cmdsel.code.setWidth 32
  | .varsel => (BitVec.ofBool (variantBit s.varsel)).setWidth 32
  | .exp => s.exp.setWidth 32
  | .rlen => s.rlen.setWidth 32
  | .cur => s.cur
  | .attempts => s.attempts
  | .fault => s.fault.code.setWidth 32
  | .faultPc => s.faultPc.setWidth 32
  | .lastEvt => s.lastEvt.code.setWidth 32
  | .chcfg => (BitVec.ofBool s.chcfg).setWidth 32
  | .hsdone => (BitVec.ofBool s.hsdone).setWidth 32
  | .txto => (BitVec.ofBool s.txto).setWidth 32
  | .matched => (BitVec.ofBool s.matched).setWidth 32

end Sys2Proof.Machine
end

