-- ==== Sys2Proof/Machine/Ops.lean ====
section
/-! DEFINITION. The shared operations: the response buffer (20_memory.md R66, R67), retirement (42_sequencer.md R162),
fault entry and the way out of it (60_exceptions.md R203, R204; 70_reset_and_hazards.md R230, R231), and the channel and
console primitives (40_channel.md R111 to R119). -/

namespace Sys2Proof.Machine

/-! ### The response buffer -/

/-- The byte at index `i`; `none` where the cell holds no value. -/
def Memory.read : Memory → Nat → Option Byte
  | [], _ => none
  | (a, b) :: rest, i => if a = i then some b else Memory.read rest i

/-- The cells `at_, at_+1, …` holding the given bytes, every other cell holding no value. -/
def Memory.ofBytes : Nat → List Byte → Memory
  | _, [] => []
  | at_, b :: rest => (at_, b) :: Memory.ofBytes (at_ + 1) rest

/-- `RxWrite` (R66): cells `0..n−1` hold the bytes received, every later cell holds no value, `RLEN` is `n`. -/
def State.rxWrite (s : State) (r : List Byte) : State :=
  { s with rxbuf := Memory.ofBytes 0 r, rlen := BitVec.ofNat 11 r.length }

/-- `RxRead(i)` (R67): only an index below `RLEN` whose cell holds a value can be read. -/
def State.rxRead (s : State) (i : Nat) : Option Byte :=
  if i < s.rlen.toNat then s.rxbuf.read i else none

/-- `RXBUF[lo .. lo + n)`, each byte read by `RxRead`; `none` if one of the reads is not allowed. -/
def State.rxReadRange (s : State) : Nat → Nat → Option (List Byte)
  | _, 0 => some []
  | lo, n + 1 =>
    match s.rxRead lo, s.rxReadRange (lo + 1) n with
    | some b, some bs => some (b :: bs)
    | _, _ => none

/-! ### Retirement and faults -/

/-- `next()` (R162): `SEQ_PC <- SEQ_PC + 1; SUB <- FETCH`. -/
def State.retire (s : State) : State := { s with seqPc := s.seqPc + 1, sub := .fetch }

/-- Fault entry, `raise Fault(code)` (R203): three writes and nothing else. -/
def State.raiseFault (s : State) (code : FaultCode) : State :=
  { s with fault := code, faultPc := s.seqPc, sub := .faulted }

/-- The only way out of FAULTED (and of HALTED): the host resets the block (R204, R230, R231). The configuration
stays, and the channel is the environment's: reset does not touch it. No step does this. -/
def State.hostReset (s : State) : State := { State.resetWith s.cfg with chan := s.chan }

/-- The refusal a mark stands for (R209). -/
def refusalOf : ConfigDefect → Refusal
  | .checksumPolicy => .checksumPolicy
  | .catalog d => .catalog d

/-! ### Streams (R22) -/

/-- Append to `TRACE`. -/
def State.log (s : State) (e : TraceEvent) : State := { s with trace := s.trace ++ [e] }

/-- `Emit(rec)` (R119). -/
def State.emit (s : State) (r : ConsoleRecord) : State := { s with console := s.console ++ [r] }

/-! ### The channel's answers -/

/-- The answer to the next configure: the first queued one, or a free value (R111). -/
def Channel.cfgAnswer (ch : Channel) : CfgResult :=
  match ch.configures with
  | a :: _ => a
  | [] => Config.freeConfigure ch.drawn

/-- The channel once that answer is given. -/
def Channel.popCfg (ch : Channel) : Channel :=
  match ch.configures with
  | _ :: rest => { ch with configures := rest }
  | [] => { ch with drawn := ch.drawn + 1 }

/-- The answer to the next send: the first queued one, or a free value (R112). -/
def Channel.sendAnswer (ch : Channel) : SendAnswer :=
  match ch.sends with
  | a :: _ => a
  | [] => Config.freeSend ch.drawn

/-- The channel once that answer is given. -/
def Channel.popSend (ch : Channel) : Channel :=
  match ch.sends with
  | _ :: rest => { ch with sends := rest }
  | [] => { ch with drawn := ch.drawn + 1 }

/-- The bytes the next receive returns: the first queued ones, or a free value, and never more than `max`: the
channel has no such move (R114, R115). -/
def Channel.recvAnswer (ch : Channel) (max : Nat) : List Byte :=
  match ch.receives with
  | r :: _ => r.take max
  | [] => (Config.freeReceive ch.drawn).take max

/-- The channel once that answer is given. -/
def Channel.popRecv (ch : Channel) : Channel :=
  match ch.receives with
  | _ :: rest => { ch with receives := rest }
  | [] => { ch with drawn := ch.drawn + 1 }

end Sys2Proof.Machine

namespace Sys2Proof

/-- What the block sees of an answer to a send (R112). -/
def SendAnswer.result : SendAnswer → SendResult
  | .ok => .ok
  | .timeout _ => .timeout

/-- The bytes of the frame `f` that reach the wire: all of it, or some prefix of it (R113). -/
def SendAnswer.onWire : SendAnswer → List Byte → List Byte
  | .ok, f => f
  | .timeout k, f => f.take k

end Sys2Proof

namespace Sys2Proof.Machine

/-! ### Channel primitives -/

/-- `ChConfigure(LINE_PARAMS)` (R111), as it leaves the state; its result is `s.chan.cfgAnswer`. The line parameters
`s.cfg.line` go to the channel unread. -/
def State.chConfigure (s : State) : State :=
  { s with chan := s.chan.popCfg, trace := s.trace ++ [TraceEvent.cfg s.chan.cfgAnswer] }

/-- `ChSend(Frame(c))` (R112, R113), as it leaves the state; its result is `s.chan.sendAnswer.result`. -/
def State.chSend (s : State) (c : CatalogId) : State :=
  { s with
    chan := { s.chan.popSend with wire := s.chan.wire ++ s.chan.sendAnswer.onWire (s.frame c) }
    trace := s.trace ++ [TraceEvent.send c (s.frame c) s.chan.sendAnswer.result] }

/-- The bytes `ChRecv(RXCAP)` returns (R114). -/
def State.received (s : State) : List Byte := s.chan.recvAnswer s.cfg.rxcap

/-- `r <- ChRecv(RXCAP); RxWrite(r)` (R114, R66), the receive of X_RECV and H_RECV. -/
def State.chReceive (s : State) : State :=
  ({ s with chan := s.chan.popRecv, trace := s.trace ++ [TraceEvent.recv s.received.length s.received] }).rxWrite s.received

/-- `Delay(k)` (R117). -/
def State.delay (s : State) (k : DelayClass) : State := s.log (.delay k)

/-! ### Sends and attempts, shared by EXE and HSK -/

/-- A send step's end (R132, R171): `TXTO` from the result; on a timeout `LAST_EVT <- TX_TIMEOUT`, `Emit(C_TXTO(c))` and
the sub-state `onTimeout`; otherwise the sub-state `onOk`. -/
def State.sendStep (s : State) (c : CatalogId) (onOk onTimeout : Sub) : State :=
  match s.chan.sendAnswer.result with
  | .ok => { s.chSend c with txto := false, sub := onOk }
  | .timeout =>
    { (s.chSend c).emit (.txTimeout c) with txto := true, lastEvt := .txTimeout, sub := onTimeout }

/-- An attempt (R132, R171): RETRY_EXHAUSTED before any send when the limit is reached; otherwise send and count it. -/
def State.attempt (s : State) (c : CatalogId) (onOk onTimeout : Sub) : State :=
  if attemptsExhausted s.cfg.maxAttempts s.attempts then s.raiseFault .retryExhausted
  else { s.sendStep c onOk onTimeout with attempts := countAttempt s.attempts }

/-! ### Fetch -/

/-- `SEQ_ROM[SEQ_PC]`; `none` when `SEQ_PC >= ROM_LEN` (R161). -/
def State.fetchWord (s : State) : Option Word := s.cfg.seqRom[s.seqPc.toNat]?

/-- The descriptor a FETCH in this state runs, where the word is there and legal (R161). -/
def State.fetched (s : State) : Option Instr :=
  match s.fetchWord with
  | none => none
  | some w => (decode s.cfg.rxcap s.cfg.romLen w).instr?

end Sys2Proof.Machine
end

