-- ==== Sys2Proof/Machine/Executor.lean ====
section
/-! DEFINITION. The command executor EXE: its fetch part and the steps X_SEND, X_RECV, X_MATCH and X_DELAY
(41_executor.md R131 to R138). -/

namespace Sys2Proof.Machine

/-- EXE's fetch part (R131, R205 item 4): NOT_CONFIGURED before the BAUD_SWITCH refusal. -/
def execExe (c : CatalogId) (e : BitVec 16) (v : Variant) (s : State) : Host.Outcome State Fault Refusal :=
  if s.chcfg = false then .next (s.raiseFault .notConfigured)
  else if c = .baudSwitch then .refused .baudSwitch
  else .next { s with cmdsel := c, exp := expOperand e, varsel := v, attempts := 0, sub := .xSend }

/-- X_SEND (R132). -/
def xSend (s : State) : Host.Outcome State Fault Refusal :=
  .next (s.attempt s.cmdsel .xRecv .xDelay)

/-- X_RECV (R133). -/
def xRecv (s : State) : Host.Outcome State Fault Refusal :=
  .next { s.chReceive with sub := .xMatch }

/-- `print_verbose()` (R137): `none` where a read of `RXBUF` is not allowed. -/
def printVerbose (s : State) (ok : Bool) : Option State :=
  match s.rxReadRange 0 s.rlen.toNat with
  | none => none
  | some dump =>
    some (((s.emit (.vLen s.rlen.toNat)).emit (.vDump dump)).emit (.vCmp s.rlen.toNat s.exp.toNat ok))

/-- `print_silent()` (R138): `none` where a read of `RXBUF` is not allowed. -/
def printSilent (s : State) : Option State :=
  match s.rxReadRange s.cfg.hOff (silentCount s.cfg.hOff s.rlen.toNat) with
  | none => none
  | some payload => some (s.emit (.sPayload payload))

/-- What X_MATCH prints (R134): verbose on every comparison, silent on success only. -/
def printMatch (s : State) (ok : Bool) : Option State :=
  match s.varsel, ok with
  | .verbose, ok => printVerbose s ok
  | .silent, true => printSilent s
  | .silent, false => some s

/-- The end of X_MATCH (R134), after the prints: `MATCH` from the comparison; retire on a match, otherwise go to the
retry delay. -/
def matchEnd (s : State) (ok : Bool) : State :=
  if ok then { s with matched := true, lastEvt := .matched }.retire
  else { s with matched := false, lastEvt := .lenMismatch, sub := .xDelay }

/-- X_MATCH (R134). -/
def xMatch (s : State) : Host.Outcome State Fault Refusal :=
  match printMatch s (lengthMatches s.rlen s.exp) with
  | none => .fault .rxRead
  | some t => .next (matchEnd t (lengthMatches s.rlen s.exp))

/-- X_DELAY (R135). -/
def xDelay (s : State) : Host.Outcome State Fault Refusal :=
  .next { s.delay .xRetry with sub := .xSend }

end Sys2Proof.Machine
end

