-- ==== Sys2Proof/Machine/Handshake.lean ====
section
/-! DEFINITION. The handshake loop HSK: its fetch part and the steps H_MAGIC, H_REQ, H_RECV and H_DELAY
(42_sequencer.md R170 to R173). -/

namespace Sys2Proof.Machine

/-- HSK's fetch part (R170). -/
def execHsk (s : State) : Host.Outcome State Fault Refusal :=
  .next <|
    if s.chcfg = false then s.raiseFault .notConfigured
    else { s with exp := BitVec.ofNat 11 hsAckLen, attempts := 0, sub := .hMagic }

/-- H_MAGIC (R171): a timeout restarts the iteration, with no delay. -/
def hMagic (s : State) : Host.Outcome State Fault Refusal :=
  .next (s.attempt .magic .hReq .hMagic)

/-- H_REQ (R171): a timeout restarts the iteration at the magic. -/
def hReq (s : State) : Host.Outcome State Fault Refusal :=
  .next (s.sendStep .handshake .hRecv .hMagic)

/-- The end of H_RECV (R172), after the receive: every length but `HS_ACK_LEN` is not ready. -/
def handshakeEnd (s : State) : State :=
  if handshakeAccepts s.rlen then { s with matched := true, hsdone := true, lastEvt := .hsAck }.retire
  else { s with matched := false, lastEvt := .hsNotReady, sub := .hDelay }

/-- H_RECV (R172). -/
def hRecv (s : State) : Host.Outcome State Fault Refusal :=
  .next (handshakeEnd s.chReceive)

/-- H_DELAY (R173). -/
def hDelay (s : State) : Host.Outcome State Fault Refusal :=
  .next { s.delay .hsRetry with sub := .hMagic }

end Sys2Proof.Machine
end

