-- ==== Sys2Proof/Machine/Sequencer.lean ====
section
/-! DEFINITION. The operations that complete in their FETCH step: CFG, DLY, ADV, JMP, STOP (42_sequencer.md R165, R167,
R176, R178, R180). -/

namespace Sys2Proof.Machine

/-- CFG (R165, R205 item 3): RECONFIG before the configure; CONFIG_FATAL after a FAIL, whose trace entry stands. -/
def execCfg (s : State) : Host.Outcome State Fault Refusal :=
  .next <|
    if s.chcfg then s.raiseFault .reconfig
    else
      match s.chan.cfgAnswer with
      | .fail => s.chConfigure.raiseFault .configFatal
      | .ok => { s.chConfigure with chcfg := true }.retire

/-- DLY (R167). -/
def execDly (k : DelayClass) (s : State) : Host.Outcome State Fault Refusal :=
  .next (s.delay k).retire

/-- ADV (R176): `CUR <- (CUR + STRIDE) mod 2^32`. -/
def execAdv (s : State) : Host.Outcome State Fault Refusal :=
  .next { s with cur := s.cur + s.cfg.stride }.retire

/-- JMP (R178). -/
def execJmp (t : BitVec 16) (s : State) : Host.Outcome State Fault Refusal :=
  .next { s with seqPc := targetOperand t, sub := .fetch }

/-- STOP (R180): `SEQ_PC` keeps the STOP's index. -/
def execStop (s : State) : Host.Outcome State Fault Refusal :=
  .next { s with sub := .halted }

end Sys2Proof.Machine
end

