-- ==== Sys2Proof/Machine/Dispatch.lean ====
section
/-! DEFINITION. The FETCH step's case on the descriptor (42_sequencer.md R161): one arm per constructor of Instr. -/

namespace Sys2Proof.Machine

def exec (i : Instr) (s : State) : Host.Outcome State Fault Refusal :=
  match i with
  | .cfg => Sys2Proof.Machine.execCfg s
  | .dly k => Sys2Proof.Machine.execDly k s
  | .hsk => Sys2Proof.Machine.execHsk s
  | .exe c e v => Sys2Proof.Machine.execExe c e v s
  | .adv => Sys2Proof.Machine.execAdv s
  | .jmp t => Sys2Proof.Machine.execJmp t s
  | .stop => Sys2Proof.Machine.execStop s

end Sys2Proof.Machine
end

