-- ==== Sys2Proof/Machine/Fetch.lean ====
section
/-! DEFINITION. The FETCH step (42_sequencer.md R161, R205), the choice of the next step by `SUB` (R160, R163), and where a
word is placed so that the next FETCH runs it. -/

namespace Sys2Proof.Machine

/-- FETCH (R161): SEQ_OVERRUN before decoding, ILLEGAL_DESCRIPTOR before any check of the operation's own. -/
def fetchStep (s : State) : Host.Outcome State Fault Refusal :=
  match s.fetchWord with
  | none => .next (s.raiseFault .seqOverrun)
  | some w =>
    match decode s.cfg.rxcap s.cfg.romLen w with
    | .illegal _ => .next (s.raiseFault .illegalDescriptor)
    | .instr i => exec i s

/-- The step `SUB` selects (R160). HALTED and FAULTED have none (R163). -/
def subStep (s : State) : Host.Outcome State Fault Refusal :=
  match s.sub with
  | .fetch => fetchStep s
  | .xSend => xSend s
  | .xRecv => xRecv s
  | .xMatch => xMatch s
  | .xDelay => xDelay s
  | .hMagic => hMagic s
  | .hReq => hReq s
  | .hRecv => hRecv s
  | .hDelay => hDelay s
  | .halted => .fault .halted
  | .faulted => .fault (.faulted s.fault)

/-- One step: a refused configuration has marked the whole state, and no step runs (60_exceptions.md R208). -/
def admittedStep (s : State) : Host.Outcome State Fault Refusal :=
  match s.refused with
  | some d => .refused (refusalOf d)
  | none => subStep s

/-- A ROM with the word `w` at index `i`, blank words (0) before it where the ROM was shorter. -/
def placeWord (rom : List Word) (i : Nat) (w : Word) : List Word :=
  (rom ++ List.replicate (i + 1 - rom.length) 0#32).set i w

/-- The ROM index the next FETCH reads: `SEQ_PC`, or 0 where `SEQ_PC` is past the longest ROM (255 words). -/
def fetchIndex (s : State) : BitVec 8 := if s.seqPc.toNat < 255 then s.seqPc else 0

end Sys2Proof.Machine
end

