-- ==== Sys2Proof/Machine/Step.lean ====
section
/-! DEFINITION. One step of the block (00_scope.md R13, 42_sequencer.md R160), and the host's way to place one
instruction. -/

namespace Sys2Proof.Machine

/-- One step. -/
def step (s : State) : Host.Outcome State Fault Refusal := admittedStep s

/-- `s` with the word `w` of `nbits` bits as the next descriptor fetched: written into `SEQ_ROM` at the index FETCH reads,
with `SUB = FETCH`. It stands for a ROM fixed before reset (70_reset_and_hazards.md R233, notes/assumptions/11.md). -/
def State.withFetchWord (s : State) (nbits w : Nat) : State :=
  { s with
    cfg := { s.cfg with
      seqRom := placeWord s.cfg.seqRom (fetchIndex s).toNat (BitVec.ofNat 32 (w % 2 ^ nbits)) }
    seqPc := fetchIndex s
    sub := .fetch }

end Sys2Proof.Machine
end

