-- ==== Sys2Proof/Safety.lean ====
section
/-! DEFINITION. The terms claims are stated in: runs, frames, the invariant of the block, the shapes of the traces of
41_executor.md R146 and 42_sequencer.md R174, and states that agree but for response contents (R139). -/

namespace Sys2Proof.Machine

/-! ### Runs -/

/-- The state after `k` steps; `none` if a step on the way answers no next state. -/
def runs : Nat → State → Option State
  | 0, s => some s
  | k + 1, s =>
    match step s with
    | .next u => runs k u
    | .fault _ => none
    | .refused _ => none

/-- The state after `k` steps, each taken from a state that meets `p`. -/
def runsInside (p : State → Bool) : Nat → State → Option State
  | 0, s => some s
  | k + 1, s =>
    if p s then
      match step s with
      | .next u => runsInside p k u
      | .fault _ => none
      | .refused _ => none
    else none

/-- Whether the next step fetches and runs an ADV. -/
def State.advNext (s : State) : Bool := decide (s.sub = .fetch) && decide (s.fetched = some .adv)

/-- How many of the first `k` steps ran an ADV. -/
def advances : Nat → State → Nat
  | 0, _ => 0
  | k + 1, s =>
    match step s with
    | .next u => (if s.advNext then 1 else 0) + advances k u
    | .fault _ => 0
    | .refused _ => 0

/-! ### Sub-states -/

/-- The sub-states of a running EXE (R130). -/
def Sub.inExe : Sub → Bool
  | .xSend | .xRecv | .xMatch | .xDelay => true
  | .fetch | .hMagic | .hReq | .hRecv | .hDelay | .halted | .faulted => false

/-- The sub-states of a running HSK (R171 to R173). -/
def Sub.inHsk : Sub → Bool
  | .hMagic | .hReq | .hRecv | .hDelay => true
  | .fetch | .xSend | .xRecv | .xMatch | .xDelay | .halted | .faulted => false

/-- The sub-states that follow a send of the running operation (R130, R171). -/
def Sub.afterSend : Sub → Bool
  | .xRecv | .xMatch | .xDelay | .hReq | .hRecv | .hDelay => true
  | .fetch | .xSend | .hMagic | .halted | .faulted => false

/-- The sub-states reached only by a send that completed (R130, R171). -/
def Sub.afterOk : Sub → Bool
  | .xRecv | .xMatch | .hReq | .hRecv | .hDelay => true
  | .fetch | .xSend | .xDelay | .hMagic | .halted | .faulted => false

/-- The two terminal sub-states (R163). -/
def Sub.terminal : Sub → Bool
  | .halted | .faulted => true
  | .fetch | .xSend | .xRecv | .xMatch | .xDelay | .hMagic | .hReq | .hRecv | .hDelay => false

/-! ### Frames -/

/-- Every register of R23 but those listed reads in `t` as in `s`. `STATUS` is a view of the others. -/
def keepsRegs (written : List Reg) (s t : State) : Prop :=
  ∀ r, r ∉ written → r ≠ .status → t.reg r = s.reg r

/-- Every cell of `RXBUF` reads in `t` as in `s`. -/
def keepsRxbuf (s t : State) : Prop := ∀ i, t.rxbuf.read i = s.rxbuf.read i

/-- The configuration, and the mark of a refused one, are as they were (R21, R208). -/
def keepsConfig (s t : State) : Prop := t.cfg = s.cfg ∧ t.refused = s.refused

/-- The configuration, the console and the environment's channel are as they were, and `TRACE` has grown by `l`. -/
def tracesOnly (l : List TraceEvent) (s t : State) : Prop :=
  keepsConfig s t ∧ t.console = s.console ∧ t.chan = s.chan ∧ t.trace = s.trace ++ l

/-- `next()` (R162): the sequencer stands at the following index, about to fetch. -/
def Retired (s t : State) : Prop := t.seqPc = s.seqPc + 1 ∧ t.sub = .fetch

/-- Fault entry (R203): three registers written, everything else as before the step. -/
def FaultEntry (code : FaultCode) (s t : State) : Prop :=
  t.fault = code ∧ t.faultPc = s.seqPc ∧ t.sub = .faulted ∧
    keepsRegs [.fault, .faultPc, .sub] s t ∧ keepsRxbuf s t ∧ tracesOnly [] s t

/-- What one send of `Frame(c)` leaves outside the registers (R112, R113): its `TRACE` entry, the bytes on the wire, and
one answer used up. The wire and the used-up answer are the model's own (DESIGN CHOICE, notes/assumptions/3.md, 5.md). -/
def Sent (c : CatalogId) (s t : State) : Prop :=
  keepsConfig s t ∧ t.trace = s.trace ++ [.send c (s.frame c) s.chan.sendAnswer.result] ∧
    t.chan.wire = s.chan.wire ++ s.chan.sendAnswer.onWire (s.frame c) ∧
    t.chan.sends = s.chan.sends.tail ∧ t.chan.receives = s.chan.receives ∧ t.chan.configures = s.chan.configures

/-- What one receive leaves (R66, R114): every cell of `RXBUF` and `RLEN` from the bytes received, its `TRACE` entry, and
one answer used up. The queues, the cut of an answer above `RXCAP` and the wire are the model's own (DESIGN CHOICE,
notes/assumptions/3.md, 4.md, 5.md). -/
def Received (s t : State) : Prop :=
  keepsConfig s t ∧ t.console = s.console ∧
    t.rlen.toNat = s.received.length ∧ (∀ i, t.rxbuf.read i = s.received[i]?) ∧
    t.trace = s.trace ++ [.recv s.received.length s.received] ∧
    t.chan.receives = s.chan.receives.tail ∧ t.chan.sends = s.chan.sends ∧
    t.chan.configures = s.chan.configures ∧ t.chan.wire = s.chan.wire

/-! ### The invariant -/

/-- The configuration has passed the check of R87, and the state carries no mark of a refused one (R208). -/
abbrev State.admitted (s : State) : Prop := s.refused = none ∧ s.cfg.defect = none

/-- What every state of a run meets (R24, R27, R29, R31, R87, R163, R201, and the writers of R23). -/
structure State.Inv (s : State) : Prop where
  /-- The configuration has passed R87. -/
  admitted    : s.admitted
  /-- `RXBUF` is in canonical form. -/
  rxCanonical : s.rxbuf.wf = true
  /-- Exactly the first `RLEN` cells hold a byte (R24, R66). -/
  rxCells     : ∀ i, (s.rxbuf.read i).isSome = true ↔ i < s.rlen.toNat
  /-- `RLEN` is in its legal range (R23). -/
  rlenLegal   : s.rlen.toNat ≤ s.cfg.rxcap
  /-- `EXP` is in its legal range, or is HSK's 12 (R23, R26). -/
  expLegal    : s.exp.toNat ≤ max s.cfg.rxcap hsAckLen
  /-- `SEQ_PC` is in its legal range (R23). -/
  pcLegal     : s.seqPc.toNat ≤ s.cfg.romLen
  /-- `FAULT` is set exactly in FAULTED (R203, R204). -/
  faultIff    : s.fault ≠ .none ↔ s.sub = .faulted
  /-- `FAULT_PC` is the faulting index (R203). -/
  faultIndex  : s.sub = .faulted → s.faultPc = s.seqPc
  /-- No EXE of BAUD_SWITCH ever starts (R95). -/
  notBaud     : s.cmdsel ≠ .baudSwitch
  /-- A running EXE is the descriptor at `SEQ_PC`, with its operands in the registers (R27, R39). -/
  exeRunning  : s.sub.inExe = true → ∃ e, s.fetched = some (.exe s.cmdsel e s.varsel) ∧ s.exp.toNat = e.toNat
  /-- A running HSK is the descriptor at `SEQ_PC`, waiting for 12 bytes (R26, R27). -/
  hskRunning  : s.sub.inHsk = true → s.fetched = some .hsk ∧ s.exp.toNat = hsAckLen
  /-- HALTED stands at a STOP (R163, R180). -/
  haltedAt    : s.sub = .halted → s.fetched = some .stop
  /-- EXE and HSK run only on a configured channel (R131, R170). -/
  configured  : (s.sub.inExe || s.sub.inHsk) = true → s.chcfg = true
  /-- `CHCFG` says that a configure has returned OK (R29). -/
  chcfgIff    : s.chcfg = true ↔ TraceEvent.cfg .ok ∈ s.trace
  /-- A handshake needs a configured channel (R29, R170). -/
  hsdoneAfter : s.hsdone = true → s.chcfg = true
  /-- The attempt limit holds (R132, R171). -/
  withinLimit : s.cfg.maxAttempts ≠ 0 → s.attempts.toNat ≤ s.cfg.maxAttempts.toNat
  /-- A send has been counted (R132, R171). -/
  counted     : s.sub.afterSend = true → s.attempts ≠ 0
  /-- `TXTO` is 0 where the last send completed (R29). -/
  sentOk      : s.sub.afterOk = true → s.txto = false
  /-- A receive waits on the frame just sent (R116, R240). -/
  awaiting    : (s.sub = .xRecv → s.trace.getLast? = some (.send s.cmdsel (s.frame s.cmdsel) .ok)) ∧
    (s.sub = .hRecv → s.trace.getLast? = some (.send .handshake (s.frame .handshake) .ok))
  /-- Every frame sent has its declared length, and none is BAUD_SWITCH (R64, R95). -/
  sentFrames  : ∀ c f r, TraceEvent.send c f r ∈ s.trace → f.length = s.cfg.declLen c ∧ c ≠ .baudSwitch
  /-- Every receive is within the buffer capacity (R114). -/
  receivedLen : ∀ n b, TraceEvent.recv n b ∈ s.trace → n = b.length ∧ n ≤ s.cfg.rxcap

/-! ### Trace shapes -/

/-- The starred part of R146: attempts of EXE that did not succeed. -/
inductive ExeRetries (c : CatalogId) (f : List Byte) (e : Nat) : List TraceEvent → Prop where
  | none : ExeRetries c f e []
  | timeout (rest) : ExeRetries c f e rest →
      ExeRetries c f e (.send c f .timeout :: .delay .xRetry :: rest)
  | mismatch (n b rest) : ¬ (e = 0 ∨ n = e) → ExeRetries c f e rest →
      ExeRetries c f e (.send c f .ok :: .recv n b :: .delay .xRetry :: rest)

/-- The trace of one EXE from fetch to retirement (R146). -/
def ExeTrace (c : CatalogId) (f : List Byte) (e : Nat) (l : List TraceEvent) : Prop :=
  ∃ retries n b, ExeRetries c f e retries ∧ (e = 0 ∨ n = e) ∧ l = retries ++ [.send c f .ok, .recv n b]

/-- The starred part of R174: iterations of HSK that did not succeed; `m` and `h` are the two frames. -/
inductive HskRetries (m h : List Byte) : List TraceEvent → Prop where
  | none : HskRetries m h []
  | magicTimeout (rest) : HskRetries m h rest → HskRetries m h (.send .magic m .timeout :: rest)
  | requestTimeout (rest) : HskRetries m h rest →
      HskRetries m h (.send .magic m .ok :: .send .handshake h .timeout :: rest)
  | notReady (n b rest) : n ≠ hsAckLen → HskRetries m h rest →
      HskRetries m h (.send .magic m .ok :: .send .handshake h .ok :: .recv n b :: .delay .hsRetry :: rest)

/-- The trace of one HSK from fetch to retirement (R174). -/
def HskTrace (m h : List Byte) (l : List TraceEvent) : Prop :=
  ∃ retries b, HskRetries m h retries ∧
    l = retries ++ [.send .magic m .ok, .send .handshake h .ok, .recv hsAckLen b]

/-! ### Agreement but for response contents (R139) -/

/-- A trace event without the bytes of a receive. -/
def TraceEvent.shape : TraceEvent → TraceEvent
  | .recv n _ => .recv n []
  | .cfg r => .cfg r
  | .send c f r => .send c f r
  | .delay k => .delay k

/-- A console record with the number of its printed bytes in place of the bytes. -/
def ConsoleRecord.shape : ConsoleRecord → ConsoleRecord × Nat
  | .vDump b => (.vDump [], b.length)
  | .sPayload b => (.sPayload [], b.length)
  | .txTimeout c => (.txTimeout c, 0)
  | .vLen n => (.vLen n, 0)
  | .vCmp n e ok => (.vCmp n e ok, 0)

/-- Two states that differ at most in the contents of the responses, received or still to be received. -/
structure AgreeButContent (s t : State) : Prop where
  cfg      : s.cfg = t.cfg
  mark     : s.refused = t.refused
  regs     : ∀ r, s.reg r = t.reg r
  cells    : ∀ i, (s.rxbuf.read i).isSome = (t.rxbuf.read i).isSome
  trace    : s.trace.map TraceEvent.shape = t.trace.map TraceEvent.shape
  console  : s.console.map ConsoleRecord.shape = t.console.map ConsoleRecord.shape
  configures : s.chan.configures = t.chan.configures
  sends    : s.chan.sends = t.chan.sends
  receives : s.chan.receives.map List.length = t.chan.receives.map List.length
  drawn    : s.chan.drawn = t.chan.drawn
  wire     : s.chan.wire = t.chan.wire

end Sys2Proof.Machine
end

