-- ==== Sys2Proof/Certificates/Slice0/Obligations.lean ====
section
/-! DEFINITION. The statements for the provers. Each docstring names the rule of spec/ a statement formalises; `s` is the
state before a step and `t` the state after it. -/

open Sys2Proof Sys2Proof.Machine

/-! ## Encoding -/

/-- R89, R93, R97: the decoder gives back every legal descriptor from its word. -/
def Obligations.EncodeThenDecode : Prop :=
  ∀ (rxcap romLen : Nat) (i : Instr), i.wf rxcap romLen = true → decode rxcap romLen (encode i) = .instr i

/-- R89, R93: a legal word has one meaning, and it is the word of that descriptor. -/
def Obligations.DecodeThenEncode : Prop :=
  ∀ (rxcap romLen : Nat) (w : Word) (i : Instr), decode rxcap romLen w = .instr i →
    encode i = w ∧ i.wf rxcap romLen = true

/-- R92: the legality table, on the fields of R89 taken out of the word's value by division. -/
def Obligations.LegalWordsAreTheTable : Prop :=
  ∀ (rxcap romLen : Nat) (w : Word),
    let op := w.toNat / 2 ^ 28
    let cmd := w.toNat / 2 ^ 24 % 2 ^ 4
    let var := w.toNat / 2 ^ 22 % 2 ^ 2
    let rsv := w.toNat / 2 ^ 16 % 2 ^ 6
    let arg := w.toNat % 2 ^ 16
    (∃ i, decode rxcap romLen w = .instr i) ↔
      (((op = 1 ∨ op = 3 ∨ op = 5 ∨ op = 7) ∧ cmd = 0 ∧ var = 0 ∧ rsv = 0 ∧ arg = 0) ∨
        (op = 2 ∧ cmd = 0 ∧ var = 0 ∧ rsv = 0 ∧ arg ≤ 3) ∨
        (op = 4 ∧ cmd ≤ 8 ∧ var ≤ 1 ∧ rsv = 0 ∧ arg ≤ rxcap) ∨
        (op = 6 ∧ cmd = 0 ∧ var = 0 ∧ rsv = 0 ∧ arg < romLen))

/-- R91: the operands are the unsigned values of their fields. -/
def Obligations.OperandsAreFields : Prop :=
  ∀ (rxcap romLen : Nat) (w : Word),
    (∀ c e v, decode rxcap romLen w = .instr (.exe c e v) →
      c.code.toNat = w.toNat / 2 ^ 24 % 2 ^ 4 ∧ v.code.toNat = w.toNat / 2 ^ 22 % 2 ∧ e.toNat = w.toNat % 2 ^ 16) ∧
    (∀ k, decode rxcap romLen w = .instr (.dly k) → k.code.toNat = w.toNat % 2 ^ 16) ∧
    (∀ j, decode rxcap romLen w = .instr (.jmp j) → j.toNat = w.toNat % 2 ^ 16)

/-- R97, R99, R86, R91: words written out from the spec's encodings stand for their descriptors: one of each operation, one
of each catalog id, one of each delay class. -/
def Obligations.WrittenWordsDecode : Prop :=
  decode 1024 11 0x10000000#32 = .instr .cfg ∧
    decode 1024 11 0x30000000#32 = .instr .hsk ∧
    decode 1024 11 0x43400014#32 = .instr (.exe .identity 20 .verbose) ∧
    decode 1024 11 0x4800003D#32 = .instr (.exe .flashRead 0x3D .silent) ∧
    decode 1024 11 0x50000000#32 = .instr .adv ∧
    decode 1024 11 0x60000008#32 = .instr (.jmp 8) ∧
    decode 1024 11 0x70000000#32 = .instr .stop ∧
    decode 1024 11 0x20000000#32 = .instr (.dly .settle) ∧
    decode 1024 11 0x20000001#32 = .instr (.dly .hsRetry) ∧
    decode 1024 11 0x20000002#32 = .instr (.dly .xRetry) ∧
    decode 1024 11 0x20000003#32 = .instr (.dly .postHs) ∧
    decode 1024 11 0x40000000#32 = .instr (.exe .magic 0 .silent) ∧
    decode 1024 11 0x41000000#32 = .instr (.exe .handshake 0 .silent) ∧
    decode 1024 11 0x42000000#32 = .instr (.exe .baudSwitch 0 .silent) ∧
    decode 1024 11 0x43000000#32 = .instr (.exe .identity 0 .silent) ∧
    decode 1024 11 0x44000000#32 = .instr (.exe .status 0 .silent) ∧
    decode 1024 11 0x45000000#32 = .instr (.exe .sub1 0 .silent) ∧
    decode 1024 11 0x46000000#32 = .instr (.exe .sub2 0 .silent) ∧
    decode 1024 11 0x47000000#32 = .instr (.exe .sub3 0 .silent) ∧
    decode 1024 11 0x48000000#32 = .instr (.exe .flashRead 0 .silent)

/-! ## The FETCH step -/

/-- R161: a FETCH of a legal word runs that descriptor's operation. -/
def Obligations.StepRunsDecoded : Prop :=
  ∀ (s : State) (w : Word) (i : Instr), s.refused = none → s.sub = .fetch →
    s.cfg.seqRom[s.seqPc.toNat]? = some w → decode s.cfg.rxcap s.cfg.romLen w = .instr i →
    step s = exec i s

/-- R233, and the model's own placement of a word (DESIGN CHOICE, notes/assumptions/11.md): the very next step runs the placed
descriptor, and the placement marks no configuration as refused that passed. -/
def Obligations.PlacedWordRuns : Prop :=
  ∀ (s : State) (w : Word) (i : Instr), s.refused = none →
    decode s.cfg.rxcap (s.withFetchWord 32 w.toNat).cfg.romLen w = .instr i →
    step (s.withFetchWord 32 w.toNat) = exec i (s.withFetchWord 32 w.toNat) ∧
      (s.cfg.defect = none → (s.withFetchWord 32 w.toNat).admitted)

/-- R161, R205: a FETCH past the last word faults with SEQ_OVERRUN, and with nothing else. -/
def Obligations.OverrunFaults : Prop :=
  ∀ s : State, s.refused = none → s.sub = .fetch → s.cfg.romLen ≤ s.seqPc.toNat →
    ∃ t, step s = .next t ∧ FaultEntry .seqOverrun s t

/-- R94: a FETCH of an illegal word faults with ILLEGAL_DESCRIPTOR, and changes nothing else. -/
def Obligations.IllegalWordFaults : Prop :=
  ∀ (s : State) (w : Word), s.refused = none → s.sub = .fetch → s.cfg.seqRom[s.seqPc.toNat]? = some w →
    (∀ i, decode s.cfg.rxcap s.cfg.romLen w ≠ .instr i) →
    ∃ t, step s = .next t ∧ FaultEntry .illegalDescriptor s t

/-! ## CFG, DLY, ADV, JMP, STOP -/

/-- R165: CFG. A second CFG faults with RECONFIG before it touches the channel; a configure that answers FAIL enters
CONFIG_FATAL, its trace entry standing; one that answers OK sets `CHCFG` and retires. The clauses on the queues and the wire
are the model's own (DESIGN CHOICE, notes/assumptions/3.md, 5.md). -/
def Obligations.CfgFollowsItsRule : Prop :=
  ∀ s : State,
    (s.chcfg = true → ∃ t, exec .cfg s = .next t ∧ FaultEntry .reconfig s t) ∧
    (s.chcfg = false → s.chan.cfgAnswer = .fail →
      ∃ t, exec .cfg s = .next t ∧ t.fault = .configFatal ∧ t.faultPc = s.seqPc ∧ t.sub = .faulted ∧
        keepsRegs [.fault, .faultPc, .sub] s t ∧ keepsRxbuf s t ∧
        t.trace = s.trace ++ [.cfg .fail] ∧ keepsConfig s t ∧ t.console = s.console ∧
        t.chan.configures = s.chan.configures.tail ∧ t.chan.sends = s.chan.sends ∧
        t.chan.receives = s.chan.receives ∧ t.chan.wire = s.chan.wire) ∧
    (s.chcfg = false → s.chan.cfgAnswer = .ok →
      ∃ t, exec .cfg s = .next t ∧ Retired s t ∧ t.chcfg = true ∧
        keepsRegs [.seqPc, .sub, .chcfg] s t ∧ keepsRxbuf s t ∧
        t.trace = s.trace ++ [.cfg .ok] ∧ keepsConfig s t ∧ t.console = s.console ∧
        t.chan.configures = s.chan.configures.tail ∧ t.chan.sends = s.chan.sends ∧
        t.chan.receives = s.chan.receives ∧ t.chan.wire = s.chan.wire)

/-- R167, R117: DLY records its class, in any state, and retires. -/
def Obligations.DlyDelays : Prop :=
  ∀ (s : State) (k : DelayClass), ∃ t, exec (.dly k) s = .next t ∧ Retired s t ∧
    keepsRegs [.seqPc, .sub] s t ∧ keepsRxbuf s t ∧ tracesOnly [.delay k] s t

/-- R176: ADV adds `STRIDE` to `CUR` modulo 2^32, writes no flag and no trace entry, and retires. -/
def Obligations.AdvAddsStride : Prop :=
  ∀ s : State, ∃ t, exec .adv s = .next t ∧ Retired s t ∧
    t.cur.toNat = (s.cur.toNat + s.cfg.stride.toNat) % 2 ^ 32 ∧
    keepsRegs [.seqPc, .sub, .cur] s t ∧ keepsRxbuf s t ∧ tracesOnly [] s t

/-- R178: JMP sets `SEQ_PC` to its target, which a legal word keeps below a ROM length of at most 255. -/
def Obligations.JmpJumps : Prop :=
  ∀ (s : State) (j : BitVec 16), j.toNat < s.cfg.romLen → s.cfg.romLen ≤ 255 →
    ∃ t, exec (.jmp j) s = .next t ∧ t.seqPc.toNat = j.toNat ∧ t.sub = .fetch ∧
      keepsRegs [.seqPc, .sub] s t ∧ keepsRxbuf s t ∧ tracesOnly [] s t

/-- R180: STOP halts, and `SEQ_PC` keeps the STOP's index. -/
def Obligations.StopHalts : Prop :=
  ∀ s : State, ∃ t, exec .stop s = .next t ∧ t.sub = .halted ∧
    keepsRegs [.sub] s t ∧ keepsRxbuf s t ∧ tracesOnly [] s t

/-! ## HSK -/

/-- R170: HSK's fetch step. On a channel no CFG has configured it faults with NOT_CONFIGURED; otherwise `EXP` is 12, no
attempt is counted yet, and the magic comes next. -/
def Obligations.HskStarts : Prop :=
  ∀ s : State,
    (s.chcfg = false → ∃ t, exec .hsk s = .next t ∧ FaultEntry .notConfigured s t) ∧
    (s.chcfg = true → ∃ t, exec .hsk s = .next t ∧
      t.exp.toNat = 12 ∧ t.attempts = 0 ∧ t.sub = .hMagic ∧
      keepsRegs [.exp, .attempts, .sub] s t ∧ keepsRxbuf s t ∧ tracesOnly [] s t)

/-- R171: the sends of HSK. At the attempt limit H_MAGIC faults with RETRY_EXHAUSTED before it sends. Otherwise it counts an
attempt and sends the magic: OK goes on to the request, a timeout is logged and restarts the iteration with no delay.
H_REQ sends the request and counts nothing: OK goes on to the receive, a timeout restarts the iteration at the magic. The
queues and the wire in `Sent` are the model's own (DESIGN CHOICE, notes/assumptions/3.md, 5.md). -/
def Obligations.HandshakeSendSteps : Prop :=
  ∀ s : State, s.refused = none →
    (s.sub = .hMagic → (s.cfg.maxAttempts ≠ 0 ∧ s.attempts = s.cfg.maxAttempts) →
      ∃ t, step s = .next t ∧ FaultEntry .retryExhausted s t) ∧
    (s.sub = .hMagic → ¬ (s.cfg.maxAttempts ≠ 0 ∧ s.attempts = s.cfg.maxAttempts) →
      ∃ t, step s = .next t ∧ Sent .magic s t ∧ keepsRxbuf s t ∧
        t.attempts.toNat = min (s.attempts.toNat + 1) (2 ^ 32 - 1) ∧
        (s.chan.sendAnswer = .ok → t.sub = .hReq ∧ t.txto = false ∧ t.console = s.console ∧
          keepsRegs [.sub, .attempts, .txto] s t) ∧
        (∀ k, s.chan.sendAnswer = .timeout k → t.sub = .hMagic ∧ t.txto = true ∧ t.lastEvt = .txTimeout ∧
          t.console = s.console ++ [.txTimeout .magic] ∧ keepsRegs [.sub, .attempts, .txto, .lastEvt] s t)) ∧
    (s.sub = .hReq →
      ∃ t, step s = .next t ∧ Sent .handshake s t ∧ keepsRxbuf s t ∧
        (s.chan.sendAnswer = .ok → t.sub = .hRecv ∧ t.txto = false ∧ t.console = s.console ∧
          keepsRegs [.sub, .txto] s t) ∧
        (∀ k, s.chan.sendAnswer = .timeout k → t.sub = .hMagic ∧ t.txto = true ∧ t.lastEvt = .txTimeout ∧
          t.console = s.console ++ [.txTimeout .handshake] ∧ keepsRegs [.sub, .txto, .lastEvt] s t))

/-- R172: H_RECV receives; 12 bytes, of any content, complete the handshake, and every other length is not ready. The queues,
the cut at `RXCAP` and the wire in `Received` are the model's own (DESIGN CHOICE, notes/assumptions/3.md, 4.md, 5.md). -/
def Obligations.HandshakeReceiveStep : Prop :=
  ∀ s : State, s.admitted → s.sub = .hRecv →
    ∃ t, step s = .next t ∧ Received s t ∧
      (s.received.length = 12 → Retired s t ∧ t.matched = true ∧ t.hsdone = true ∧ t.lastEvt = .hsAck ∧
        keepsRegs [.rlen, .matched, .hsdone, .lastEvt, .seqPc, .sub] s t) ∧
      (s.received.length ≠ 12 → t.sub = .hDelay ∧ t.matched = false ∧ t.lastEvt = .hsNotReady ∧
        keepsRegs [.rlen, .matched, .lastEvt, .sub] s t)

/-- R173: H_DELAY records the not-ready delay and restarts the iteration. -/
def Obligations.HandshakeDelayStep : Prop :=
  ∀ s : State, s.refused = none → s.sub = .hDelay →
    ∃ t, step s = .next t ∧ t.sub = .hMagic ∧ keepsRegs [.sub] s t ∧ keepsRxbuf s t ∧
      tracesOnly [.delay .hsRetry] s t

/-- R170 to R172: with OK, OK and a 12-byte answer waiting, HSK retires in four steps, one attempt counted (R175's
scenario A). -/
def Obligations.HskRetiresOnAck : Prop :=
  ∀ (s : State) (sends : List SendAnswer) (r : List Byte) (rs : List (List Byte)),
    s.admitted → s.sub = .fetch → s.fetched = some .hsk → s.chcfg = true →
    s.chan.sends = .ok :: .ok :: sends → s.chan.receives = r :: rs → r.length = 12 → 12 ≤ s.cfg.rxcap →
    ∃ t, runs 4 s = some t ∧ Retired s t ∧ t.attempts = 1 ∧ t.rlen.toNat = 12 ∧ t.hsdone = true ∧ t.matched = true ∧
      t.lastEvt = .hsAck ∧ (∀ i, t.rxbuf.read i = r[i]?) ∧
      t.trace = s.trace ++
        [.send .magic (s.frame .magic) .ok, .send .handshake (s.frame .handshake) .ok, .recv 12 r] ∧
      keepsRegs [.exp, .attempts, .txto, .rlen, .matched, .hsdone, .lastEvt, .seqPc, .sub] s t

/-! ## EXE -/

/-- R131: EXE's fetch step. On a channel no CFG has configured, EXE of any frame faults with NOT_CONFIGURED (BAUD_SWITCH too,
R205 item 4); otherwise BAUD_SWITCH is refused by name, and any other frame starts with its operands in the registers,
`EXP` being the whole of a legal ARG. -/
def Obligations.ExeStarts : Prop :=
  ∀ (s : State) (c : CatalogId) (e : BitVec 16) (v : Variant),
    (s.chcfg = false → ∃ t, exec (.exe c e v) s = .next t ∧ FaultEntry .notConfigured s t) ∧
    (s.chcfg = true → c = .baudSwitch → exec (.exe c e v) s = .refused .baudSwitch) ∧
    (s.chcfg = true → c ≠ .baudSwitch → e.toNat ≤ s.cfg.rxcap → s.cfg.rxcap ≤ 1024 →
      ∃ t, exec (.exe c e v) s = .next t ∧ t.cmdsel = c ∧ t.exp.toNat = e.toNat ∧ t.varsel = v ∧ t.attempts = 0 ∧
        t.sub = .xSend ∧ keepsRegs [.cmdsel, .exp, .varsel, .attempts, .sub] s t ∧ keepsRxbuf s t ∧
        tracesOnly [] s t)

/-- R95: EXE of BAUD_SWITCH on a configured channel is refused by that name, and no other descriptor ever is. -/
def Obligations.OnlyBaudSwitchRefused : Prop :=
  ∀ (s : State) (i : Instr) (r : Refusal), exec i s = .refused r ↔
    (r = .baudSwitch ∧ s.chcfg = true ∧ ∃ e v, i = .exe .baudSwitch e v)

/-- R132: X_SEND. At the attempt limit it faults with RETRY_EXHAUSTED before it sends; otherwise it counts an attempt and
sends the selected frame: OK goes on to the receive, a timeout is logged and skips it. The queues and the wire in `Sent` are
the model's own (DESIGN CHOICE, notes/assumptions/3.md, 5.md). -/
def Obligations.ExecutorSendStep : Prop :=
  ∀ s : State, s.refused = none → s.sub = .xSend →
    ((s.cfg.maxAttempts ≠ 0 ∧ s.attempts = s.cfg.maxAttempts) →
      ∃ t, step s = .next t ∧ FaultEntry .retryExhausted s t) ∧
    (¬ (s.cfg.maxAttempts ≠ 0 ∧ s.attempts = s.cfg.maxAttempts) →
      ∃ t, step s = .next t ∧ Sent s.cmdsel s t ∧ keepsRxbuf s t ∧
        t.attempts.toNat = min (s.attempts.toNat + 1) (2 ^ 32 - 1) ∧
        (s.chan.sendAnswer = .ok → t.sub = .xRecv ∧ t.txto = false ∧ t.console = s.console ∧
          keepsRegs [.sub, .attempts, .txto] s t) ∧
        (∀ k, s.chan.sendAnswer = .timeout k → t.sub = .xDelay ∧ t.txto = true ∧ t.lastEvt = .txTimeout ∧
          t.console = s.console ++ [.txTimeout s.cmdsel] ∧ keepsRegs [.sub, .attempts, .txto, .lastEvt] s t))

/-- R133, R66: X_RECV receives into `RXBUF` and goes on to the match. The queues, the cut at `RXCAP` and the wire in `Received`
are the model's own (DESIGN CHOICE, notes/assumptions/3.md, 4.md, 5.md). -/
def Obligations.ExecutorReceiveStep : Prop :=
  ∀ s : State, s.admitted → s.sub = .xRecv →
    ∃ t, step s = .next t ∧ Received s t ∧ t.sub = .xMatch ∧ keepsRegs [.rlen, .sub] s t

/-- R134, R136, R137, R138: X_MATCH where the first `RLEN` cells hold the bytes `b`. It retires exactly when `EXP` is 0 or
`RLEN` is `EXP`; verbose prints the length, all of `b` and the comparison, silent prints `b[H_OFF .. RLEN − 1)` on success
and nothing otherwise. -/
def Obligations.MatchStep : Prop :=
  ∀ (s : State) (b : List Byte), s.refused = none → s.sub = .xMatch → b.length = s.rlen.toNat →
    (∀ i, i < s.rlen.toNat → s.rxbuf.read i = b[i]?) →
    ∃ t, step s = .next t ∧ keepsRxbuf s t ∧ keepsConfig s t ∧ t.trace = s.trace ∧ t.chan = s.chan ∧
      ((s.exp.toNat = 0 ∨ s.rlen.toNat = s.exp.toNat) →
        Retired s t ∧ t.matched = true ∧ t.lastEvt = .matched ∧ keepsRegs [.matched, .lastEvt, .seqPc, .sub] s t ∧
        (s.varsel = .verbose → t.console = s.console ++
          [.vLen s.rlen.toNat, .vDump b, .vCmp s.rlen.toNat s.exp.toNat true]) ∧
        (s.varsel = .silent → t.console = s.console ++
          [.sPayload ((b.take (s.rlen.toNat - 1)).drop s.cfg.hOff)])) ∧
      (¬ (s.exp.toNat = 0 ∨ s.rlen.toNat = s.exp.toNat) →
        t.sub = .xDelay ∧ t.matched = false ∧ t.lastEvt = .lenMismatch ∧ keepsRegs [.matched, .lastEvt, .sub] s t ∧
        (s.varsel = .verbose → t.console = s.console ++
          [.vLen s.rlen.toNat, .vDump b, .vCmp s.rlen.toNat s.exp.toNat false]) ∧
        (s.varsel = .silent → t.console = s.console))

/-- R67, R24: X_MATCH stops on a read that is not allowed exactly where it has a byte to print (`RXBUF[0..RLEN)` verbose,
`RXBUF[H_OFF .. RLEN − 1)` silent on success) whose cell holds no value. -/
def Obligations.MatchStopsOnMissingByte : Prop :=
  ∀ s : State, s.refused = none → s.sub = .xMatch →
    (step s = .fault .rxRead ↔
      ∃ i, s.rxbuf.read i = none ∧
        ((s.varsel = .verbose ∧ i < s.rlen.toNat) ∨
          (s.varsel = .silent ∧ (s.exp.toNat = 0 ∨ s.rlen.toNat = s.exp.toNat) ∧
            s.cfg.hOff ≤ i ∧ i + 1 < s.rlen.toNat)))

/-- R135: X_DELAY records the retry delay and goes back to the send. -/
def Obligations.ExecutorDelayStep : Prop :=
  ∀ s : State, s.refused = none → s.sub = .xDelay →
    ∃ t, step s = .next t ∧ t.sub = .xSend ∧ keepsRegs [.sub] s t ∧ keepsRxbuf s t ∧
      tracesOnly [.delay .xRetry] s t

/-- R131 to R136: with OK and a response of a matching length waiting, EXE retires in four steps, one attempt counted. -/
def Obligations.ExeRetiresOnMatchingResponse : Prop :=
  ∀ (s : State) (c : CatalogId) (e : BitVec 16) (v : Variant) (sends : List SendAnswer) (r : List Byte)
    (rs : List (List Byte)),
    s.admitted → s.sub = .fetch → s.fetched = some (.exe c e v) → s.chcfg = true → c ≠ .baudSwitch →
    s.chan.sends = .ok :: sends → s.chan.receives = r :: rs → r.length ≤ s.cfg.rxcap →
    (e.toNat = 0 ∨ r.length = e.toNat) →
    ∃ t, runs 4 s = some t ∧ Retired s t ∧ t.attempts = 1 ∧ t.cmdsel = c ∧ t.exp.toNat = e.toNat ∧ t.varsel = v ∧
      t.rlen.toNat = r.length ∧ t.matched = true ∧ t.lastEvt = .matched ∧ (∀ i, t.rxbuf.read i = r[i]?) ∧
      t.trace = s.trace ++ [.send c (s.frame c) .ok, .recv r.length r] ∧
      keepsRegs [.cmdsel, .exp, .varsel, .attempts, .txto, .rlen, .matched, .lastEvt, .seqPc, .sub] s t

/-- R145: a running EXE returns to FETCH only from an X_MATCH whose lengths match. -/
def Obligations.ExeRetiresOnlyOnMatch : Prop :=
  ∀ s t : State, s.sub.inExe = true → step s = .next t → t.sub = .fetch →
    s.sub = .xMatch ∧ (s.exp.toNat = 0 ∨ s.rlen.toNat = s.exp.toNat) ∧ t.seqPc = s.seqPc + 1

/-- R141: while an EXE runs, no step changes the frame it sends, and what it sends is that frame. -/
def Obligations.RetriesSendSameFrame : Prop :=
  ∀ s t : State, s.sub.inExe = true → step s = .next t →
    t.cmdsel = s.cmdsel ∧ t.cur = s.cur ∧ t.frame t.cmdsel = s.frame s.cmdsel ∧
      ∀ c f r, t.trace = s.trace ++ [.send c f r] → c = s.cmdsel ∧ f = s.frame s.cmdsel

/-- R146: from its fetch to its retirement an EXE appends a trace of the rule's shape. -/
def Obligations.ExeTraceShape : Prop :=
  ∀ (s u t : State) (c : CatalogId) (e : BitVec 16) (v : Variant) (k : Nat), s.admitted →
    s.sub = .fetch → s.fetched = some (.exe c e v) → step s = .next u →
    runsInside (fun x => x.sub.inExe) k u = some t → t.sub = .fetch →
    ∃ l, t.trace = s.trace ++ l ∧ ExeTrace c (s.frame c) e.toNat l

/-- R174: from its fetch to its retirement an HSK appends a trace of the rule's shape. -/
def Obligations.HskTraceShape : Prop :=
  ∀ (s u t : State) (k : Nat), s.admitted →
    s.sub = .fetch → s.fetched = some .hsk → step s = .next u →
    runsInside (fun x => x.sub.inHsk) k u = some t → t.sub = .fetch →
    ∃ l, t.trace = s.trace ++ l ∧ HskTrace (s.frame .magic) (s.frame .handshake) l

/-! ## Frames and the channel -/

/-- R64: the composed frame has the declared length, carries the cursor little-endian at `ADDR_OFF` in FLASH_READ, and is
the catalog's bytes everywhere else. -/
def Obligations.FramesAreComposed : Prop :=
  ∀ (s : State) (c : CatalogId), s.cfg.defect = none →
    (s.frame c).length = s.cfg.declLen c ∧
      (∀ i, ¬ (c = .flashRead ∧ s.cfg.addrOff ≤ i ∧ i < s.cfg.addrOff + 4) →
        (s.frame c)[i]? = (s.cfg.frame c)[i]?) ∧
      (∀ k, k < 4 → (s.frame .flashRead)[s.cfg.addrOff + k]? = some (s.cur.extractLsb' (8 * k) 8))

/-- R62: the four address bytes, read back as a little-endian number, are `CUR`. -/
def Obligations.AddressBytesReadBack : Prop :=
  ∀ s : State, s.cfg.defect = none →
    le32Inv (slice (s.frame .flashRead) s.cfg.addrOff (s.cfg.addrOff + 4)) = s.cur

/-- R112, R113: what a step puts on the wire is nothing, or a prefix of a composed frame of the catalog, and all of it
where the send completed. -/
def Obligations.WireGetsFramePrefixes : Prop :=
  ∀ s t : State, step s = .next t →
    (t.chan.wire = s.chan.wire ∧ ∀ c f r, t.trace ≠ s.trace ++ [.send c f r]) ∨
      ∃ c r k, t.trace = s.trace ++ [.send c (s.frame c) r] ∧
        t.chan.wire = s.chan.wire ++ (s.frame c).take k ∧ (r = .ok → (s.frame c).take k = s.frame c)

/-- R114, R116: a receive returns at most `RXCAP` bytes, and follows directly on a send that completed. -/
def Obligations.ReceiveFollowsSend : Prop :=
  ∀ (s t : State) (n : Nat) (b : List Byte), s.Inv → step s = .next t → t.trace = s.trace ++ [.recv n b] →
    n = b.length ∧ n ≤ s.cfg.rxcap ∧ ∃ c, s.trace.getLast? = some (.send c (s.frame c) .ok)

/-- R13, R22, R240: a step appends at most one event to `TRACE`, only appends to `CONSOLE`, and (R21) leaves the
configuration alone. -/
def Obligations.StreamsOnlyGrow : Prop :=
  ∀ s t : State, step s = .next t →
    keepsConfig s t ∧ (∃ l, l.length ≤ 1 ∧ t.trace = s.trace ++ l) ∧ ∃ l, t.console = s.console ++ l

/-! ## Registers -/

/-- R33: the status word's fields, taken out of its value by division; every reserved bit is 0, and so is the whole word
after reset. With the code tables of R31 (`SUB`), R32 (`LAST_EVT`) and R201 (`FAULT`). -/
def Obligations.StatusLayout : Prop :=
  (∀ s : State, let v := s.status.toNat
    v % 2 ^ 4 = s.sub.code.toNat ∧ v / 2 ^ 4 % 2 ^ 3 = s.lastEvt.code.toNat ∧ v / 2 ^ 7 % 2 = 0 ∧
      v / 2 ^ 8 % 2 ^ 3 = s.fault.code.toNat ∧ v / 2 ^ 11 % 2 = 0 ∧ v / 2 ^ 12 % 2 = s.chcfg.toNat ∧
      v / 2 ^ 13 % 2 = s.hsdone.toNat ∧ v / 2 ^ 14 % 2 = s.txto.toNat ∧ v / 2 ^ 15 % 2 = s.matched.toNat ∧
      v / 2 ^ 16 % 2 ^ 8 = s.seqPc.toNat ∧ v / 2 ^ 24 = 0) ∧
    (∀ g : Config, (State.resetWith g).status = 0) ∧
    ([Sub.fetch, .xSend, .xRecv, .xMatch, .xDelay, .hMagic, .hReq, .hRecv, .hDelay, .halted, .faulted].map
      fun x => x.code.toNat) = [0, 1, 2, 3, 4, 5, 6, 7, 8, 9, 10] ∧
    ([LastEvt.none, .txTimeout, .lenMismatch, .hsNotReady, .matched, .hsAck].map fun x => x.code.toNat) =
      [0, 1, 2, 3, 4, 5] ∧
    ([FaultCode.none, .configFatal, .illegalDescriptor, .seqOverrun, .notConfigured, .reconfig, .retryExhausted].map
      fun x => x.code.toNat) = [0, 1, 2, 3, 4, 5, 6]

/-- R23: what each of the 16 registers reads as, and its number and width in the register file. The codes of `SUB`, `LAST_EVT`
and `FAULT` stand in StatusLayout, those of `CMDSEL` in WrittenWordsDecode and OperandsAreFields. -/
def Obligations.RegistersReadTheirFields : Prop :=
  (∀ s : State,
    (s.reg .status = s.status ∧ s.reg .cur = s.cur ∧ s.reg .attempts = s.attempts) ∧
    ((s.reg .seqPc).toNat = s.seqPc.toNat ∧ s.seqPc.toNat < 2 ^ 8) ∧
    ((s.reg .sub).toNat = s.sub.code.toNat ∧ (s.reg .sub).toNat < 2 ^ 4) ∧
    ((s.reg .cmdsel).toNat = s.cmdsel.code.toNat ∧ (s.reg .cmdsel).toNat < 2 ^ 4) ∧
    ((s.varsel = .silent → s.reg .varsel = 0) ∧ (s.varsel = .verbose → s.reg .varsel = 1)) ∧
    ((s.reg .exp).toNat = s.exp.toNat ∧ s.exp.toNat < 2 ^ 11) ∧
    ((s.reg .rlen).toNat = s.rlen.toNat ∧ s.rlen.toNat < 2 ^ 11) ∧
    ((s.reg .fault).toNat = s.fault.code.toNat ∧ (s.reg .fault).toNat < 2 ^ 3) ∧
    ((s.reg .faultPc).toNat = s.faultPc.toNat ∧ s.faultPc.toNat < 2 ^ 8) ∧
    ((s.reg .lastEvt).toNat = s.lastEvt.code.toNat ∧ (s.reg .lastEvt).toNat < 2 ^ 3) ∧
    (s.reg .chcfg).toNat = s.chcfg.toNat ∧ (s.reg .hsdone).toNat = s.hsdone.toNat ∧
    (s.reg .txto).toNat = s.txto.toNat ∧ (s.reg .matched).toNat = s.matched.toNat) ∧
  ([Reg.status, .seqPc, .sub, .cmdsel, .varsel, .exp, .rlen, .cur, .attempts, .fault, .faultPc, .lastEvt, .chcfg,
      .hsdone, .txto, .matched].map fun r => (r.number, r.width)) =
    [(0, 32), (1, 8), (2, 4), (3, 4), (4, 1), (5, 11), (6, 11), (7, 32), (8, 32), (9, 3), (10, 8), (11, 3), (12, 1),
      (13, 1), (14, 1), (15, 1)]

/-- R23, R25, R29, R30, R142, R174: which steps write which register; every other step leaves it alone. -/
def Obligations.RegisterWriters : Prop :=
  ∀ s t : State, step s = .next t →
    (t.cur ≠ s.cur → s.sub = .fetch ∧ s.fetched = some .adv) ∧
    ((t.cmdsel ≠ s.cmdsel ∨ t.varsel ≠ s.varsel) → s.sub = .fetch ∧ ∃ c e v, s.fetched = some (.exe c e v)) ∧
    (t.exp ≠ s.exp → s.sub = .fetch ∧ (s.fetched = some .hsk ∨ ∃ c e v, s.fetched = some (.exe c e v))) ∧
    (t.attempts ≠ s.attempts → s.sub = .xSend ∨ s.sub = .hMagic ∨
      (s.sub = .fetch ∧ (s.fetched = some .hsk ∨ ∃ c e v, s.fetched = some (.exe c e v)))) ∧
    ((t.rlen ≠ s.rlen ∨ t.rxbuf ≠ s.rxbuf) → s.sub = .xRecv ∨ s.sub = .hRecv) ∧
    ((t.fault ≠ s.fault ∨ t.faultPc ≠ s.faultPc) → t.sub = .faulted) ∧
    (t.lastEvt ≠ s.lastEvt →
      s.sub = .xSend ∨ s.sub = .xMatch ∨ s.sub = .hMagic ∨ s.sub = .hReq ∨ s.sub = .hRecv) ∧
    (t.chcfg ≠ s.chcfg → s.sub = .fetch ∧ s.fetched = some .cfg) ∧
    (t.hsdone ≠ s.hsdone → s.sub = .hRecv ∧ t.hsdone = true) ∧
    (t.txto ≠ s.txto → s.sub = .xSend ∨ s.sub = .hMagic ∨ s.sub = .hReq) ∧
    (t.matched ≠ s.matched → s.sub = .xMatch ∨ s.sub = .hRecv)

/-- R27: `SEQ_PC` never wraps: it stays, goes up by one, or becomes a JMP's target. -/
def Obligations.PcNeverWraps : Prop :=
  ∀ s t : State, s.Inv → step s = .next t →
    t.seqPc.toNat = s.seqPc.toNat ∨ t.seqPc.toNat = s.seqPc.toNat + 1 ∨
      (s.sub = .fetch ∧ ∃ j, s.fetched = some (.jmp j) ∧ t.seqPc.toNat = j.toNat)

/-- R188, for any ROM and from any state: `CUR` is what it was plus `STRIDE` once for each ADV that ran, modulo 2^32. -/
def Obligations.CursorLaw : Prop :=
  ∀ (k : Nat) (s t : State), runs k s = some t →
    t.cur.toNat = (s.cur.toNat + advances k s * s.cfg.stride.toNat) % 2 ^ 32

/-! ## Reset, terminal states, refused configurations -/

/-- R40, R230: the state after reset, under any configuration. `CUR` is the little-endian value of the four bytes of the
FLASH_READ template at `ADDR_OFF`, so that under an admitted configuration the frame composed after reset is that
template. -/
def Obligations.ResetState : Prop :=
  ∀ g : Config, let s := State.resetWith g
    s.cfg = g ∧ s.seqPc = 0 ∧ s.sub = .fetch ∧ s.cmdsel.code = 0 ∧ s.varsel = .silent ∧ s.exp = 0 ∧ s.rlen = 0 ∧
      s.attempts = 0 ∧ s.fault = .none ∧ s.faultPc = 0 ∧ s.lastEvt = .none ∧
      s.chcfg = false ∧ s.hsdone = false ∧ s.txto = false ∧ s.matched = false ∧
      (∀ i, s.rxbuf.read i = none) ∧ s.trace = [] ∧ s.console = [] ∧ s.status = 0 ∧
      (∀ b0 b1 b2 b3, (∀ k, k < 4 → (g.frame .flashRead)[g.addrOff + k]? = [b0, b1, b2, b3][k]?) →
        s.cur.toNat = b0.toNat + 2 ^ 8 * b1.toNat + 2 ^ 16 * b2.toNat + 2 ^ 24 * b3.toNat) ∧
      (g.defect = none → s.frame .flashRead = g.frame .flashRead)

/-- R163: HALTED and FAULTED have no step; a step enters HALTED only by STOP, and FAULTED only with a fault code and the
faulting index recorded. -/
def Obligations.TerminalSubStates : Prop :=
  (∀ s t : State, s.sub.terminal = true → step s ≠ .next t) ∧
    ∀ s t : State, step s = .next t →
      (t.sub = .halted → s.sub = .fetch ∧ s.fetched = some .stop) ∧
      (t.sub = .faulted → t.fault ≠ .none ∧ t.faultPc = s.seqPc)

/-- R204, R230, R231: the host's reset gives the state of R40 under the same configuration, the environment's channel left
as it is (notes/assumptions/14.md). -/
def Obligations.HostResetRestarts : Prop :=
  ∀ s : State, s.hostReset.chan = s.chan ∧ { s.hostReset with chan := .idle } = State.resetWith s.cfg

/-! ## Faults -/

/-- R203: a fault is the state before the step plus three writes; only CONFIG_FATAL leaves a trace entry too, its configure
having been answered. -/
def Obligations.FaultsArePrecise : Prop :=
  ∀ s t : State, step s = .next t → t.sub = .faulted →
    t.fault ≠ .none ∧ t.faultPc = s.seqPc ∧ keepsRegs [.fault, .faultPc, .sub] s t ∧ keepsRxbuf s t ∧
      keepsConfig s t ∧ t.console = s.console ∧
      (t.fault = .configFatal → t.trace = s.trace ++ [.cfg .fail]) ∧
      (t.fault ≠ .configFatal → t.trace = s.trace ∧ t.chan = s.chan)

/-- R201, R205: the cause of each fault by its code, and what is recorded; no other code is raised. -/
def Obligations.FaultCauses : Prop :=
  ∀ s t : State, step s = .next t → t.sub = .faulted →
    t.faultPc = s.seqPc ∧
      ((t.fault.code = 1 ∧ s.sub = .fetch ∧ s.fetched = some .cfg ∧ s.chcfg = false ∧ s.chan.cfgAnswer = .fail ∧
          t.trace.getLast? = some (.cfg .fail)) ∨
        (t.fault.code = 2 ∧ s.sub = .fetch ∧ s.seqPc.toNat < s.cfg.romLen ∧ s.fetched = none) ∨
        (t.fault.code = 3 ∧ s.sub = .fetch ∧ s.cfg.romLen ≤ s.seqPc.toNat ∧
          (s.Inv → t.faultPc.toNat = s.cfg.romLen)) ∨
        (t.fault.code = 4 ∧ s.sub = .fetch ∧ s.chcfg = false ∧
          (s.fetched = some .hsk ∨ ∃ c e v, s.fetched = some (.exe c e v))) ∨
        (t.fault.code = 5 ∧ s.sub = .fetch ∧ s.chcfg = true ∧ s.fetched = some .cfg) ∨
        (t.fault.code = 6 ∧ (s.sub = .xSend ∨ s.sub = .hMagic) ∧ s.cfg.maxAttempts ≠ 0 ∧
          t.attempts = s.cfg.maxAttempts))

/-- R87, R95, R8: which configurations are admitted. R87's seven items are necessary; that they and R8's constraint
`H_OFF < RXCAP` are enough, for any P, and that `ROM_LEN` is the ROM's length are the model's choice (notes/assumptions/9.md,
10.md, 23.md). `P` is checked once it is given. -/
def Obligations.AdmittedConfigurations : Prop :=
  ∀ g : Config, g.defect = none ↔
    (∀ c, (g.frame c).length = g.declLen c) ∧ g.declLen .magic = 4 ∧
      g.addrOff + 4 ≤ g.declLen .flashRead ∧ (∀ c, 1 ≤ g.declLen c) ∧ g.checksumCheck = false ∧
      (1 ≤ g.seqRom.length ∧ g.seqRom.length ≤ 255) ∧ (1 ≤ g.rxcap ∧ g.rxcap ≤ 1024) ∧
      (∀ p, g.padStart = some p → ∀ i, p ≤ i → i < g.declLen .flashRead →
        (g.frame .flashRead)[i]? = some 0) ∧
      g.hOff < g.rxcap

/-- R87, R95, R208, R209: a refused configuration marks the state at reset, and a marked state runs no step. `CHECKSUM_CHECK`
on is refused as CHECKSUM_POLICY, whatever else fails (that it comes first is the model's choice, notes/assumptions/9.md);
any other defect is a refusal of the catalog. -/
def Obligations.RefusedConfigurationsDoNotRun : Prop :=
  (∀ g : Config,
    (g.checksumCheck = true → step (State.resetWith g) = .refused .checksumPolicy) ∧
    (g.checksumCheck = false → g.defect ≠ none → ∃ d, step (State.resetWith g) = .refused (.catalog d)) ∧
    (g.defect = none → (State.resetWith g).refused = none)) ∧
  ∀ (s : State) (d : ConfigDefect), s.refused = some d →
    ∃ r, step s = .refused r ∧ (r = .checksumPolicy ∨ ∃ x, r = .catalog x)

/-! ## The whole machine -/

/-- The invariant holds after reset under every admitted configuration, and in `State.reset`, which stands under the
reference configuration (DESIGN CHOICE, notes/assumptions/2.md). -/
def Obligations.ResetMeetsInvariant : Prop :=
  (∀ g : Config, g.defect = none → (State.resetWith g).Inv) ∧
    State.reset = State.resetWith Config.reference ∧ State.reset.Inv

/-- Every step keeps the invariant, from every state that meets it. -/
def Obligations.StepKeepsInvariant : Prop :=
  ∀ s t : State, s.Inv → step s = .next t → t.Inv

/-- R182: every state of a run but the terminal ones and the fetch of an EXE of BAUD_SWITCH (R95) has its step. -/
def Obligations.StepGoesOn : Prop :=
  ∀ s : State, s.Inv → s.sub.terminal = false →
    ¬ (s.sub = .fetch ∧ s.chcfg = true ∧ ∃ e v, s.fetched = some (.exe .baudSwitch e v)) →
    ∃ t, step s = .next t

/-- R139: the contents of responses decide nothing. Two states that differ in nothing else take steps to states that
differ in nothing else. -/
def Obligations.ContentDecidesNothing : Prop :=
  ∀ s s' t : State, AgreeButContent s s' → step s = .next t → ∃ t', step s' = .next t' ∧ AgreeButContent t t'
end

