-- ==== Sys2Proof/Laws/Boot.lean ====
section
/-! SUPPORT. What an admitted configuration is bound to, and that the reference configuration is one whatever its OPEN values
are (30_encoding.md R87, 00_scope.md R8). -/

namespace Sys2Proof

theorem mem_catalogId_all (c : CatalogId) : c ∈ CatalogId.all := by cases c <;> decide

theorem framesDeclared_iff (g : Config) :
    g.framesDeclared = true ↔ ∀ c, (g.frame c).length = g.declLen c := by
  simp only [Config.framesDeclared, List.all_eq_true, decide_eq_true_eq]
  exact ⟨fun h c => h c (mem_catalogId_all c), fun h c _ => h c⟩

theorem framesNonempty_iff (g : Config) : g.framesNonempty = true ↔ ∀ c, 1 ≤ g.declLen c := by
  simp only [Config.framesNonempty, List.all_eq_true, decide_eq_true_eq]
  exact ⟨fun h c => h c (mem_catalogId_all c), fun h c _ => h c⟩

/-- What the machine's claims use of an admitted configuration. -/
theorem admitted_bounds (g : Config) (h : g.defect = none) :
    (∀ c, (g.frame c).length = g.declLen c) ∧ g.addrOff + 4 ≤ g.declLen .flashRead ∧
      g.romLen ≤ 255 ∧ 1 ≤ g.rxcap ∧ g.rxcap ≤ 1024 := by
  unfold Config.defect at h
  split at h; · cases h
  split at h; · cases h
  split at h; · cases h
  split at h; · cases h
  split at h; · cases h
  split at h; · cases h
  split at h; · cases h
  rename_i hf _ ha _ hr hx
  exact ⟨(framesDeclared_iff g).1 (by simpa using hf), by omega, by omega, by omega, by omega⟩

/-- The reference configuration is admitted, whatever stands in its OPEN parameters. -/
theorem reference_admitted : Config.reference.defect = none := by
  have h1 : Config.reference.framesDeclared = true := by
    rw [framesDeclared_iff]; intro c; cases c <;> rfl
  have h2 : Config.reference.framesNonempty = true := by
    rw [framesNonempty_iff]; intro c
    cases c <;> simp only [Config.declLen, Catalog.entry, Config.reference, referenceCatalog, openEntry, declared,
      openFour, magicLen, List.length_cons, List.length_append, List.length_map, List.length_range] <;> omega
  have h3 : Config.reference.addrOff + 4 ≤ Config.reference.declLen .flashRead := by
    simp [Config.declLen, Catalog.entry, Config.reference, referenceCatalog, declared, openFour]
  have h4 : Config.reference.paddingZero = true := rfl
  unfold Config.defect
  rw [if_neg (by decide), if_neg (by simp [h1]), if_neg (by simp [Config.declLen, Catalog.entry, Config.reference,
    referenceCatalog]), if_neg (by omega), if_neg (by simp [h2]), if_neg (by decide), if_neg (by decide),
    if_neg (by simp [h4]), if_neg (by decide)]

namespace Machine

/-- The state after reset is the one of R40 under the reference configuration. -/
theorem reset_eq : State.reset = State.resetWith Config.reference := by
  show ({ State.resetWith Config.reference with refused := none } : State) = State.resetWith Config.reference
  rw [← reference_admitted]; rfl

end Machine

end Sys2Proof
end

