-- ==== Sys2Proof/Laws/Encoding.lean ====
section
/-! SUPPORT. The fields of a packed word and the round trips of the operand codes (30_encoding.md R86, R89, R91). -/

namespace Sys2Proof

/-- Concatenation as a number: the left operand stands above the right one (R10). -/
theorem append_toNat {n m : Nat} (x : BitVec n) (y : BitVec m) : (x ++ y).toNat = x.toNat * 2 ^ m + y.toNat := by
  rw [BitVec.toNat_append, ← Nat.shiftLeft_add_eq_or_of_lt y.isLt, Nat.shiftLeft_eq]

/-- A packed word as a number: each field at its place (R89, R97). -/
theorem pack_toNat (op cmd : BitVec 4) (var : BitVec 2) (arg : BitVec 16) :
    (pack op cmd var arg).toNat
      = op.toNat * 2 ^ 28 + cmd.toNat * 2 ^ 24 + var.toNat * 2 ^ 22 + arg.toNat := by
  simp only [pack, append_toNat, BitVec.toNat_ofNat]
  omega

/-- A field of `n` bits at `lo`, as a number. -/
theorem field_toNat (w : Word) (lo n : Nat) : (w.extractLsb' lo n).toNat = w.toNat / 2 ^ lo % 2 ^ n := by
  simp [BitVec.extractLsb'_toNat, Nat.shiftRight_eq_div_pow]

@[simp] theorem opField_pack (op cmd var arg) : opField (pack op cmd var arg) = op := by
  apply BitVec.eq_of_toNat_eq
  rw [opField, field_toNat, pack_toNat]; omega

@[simp] theorem cmdField_pack (op cmd var arg) : cmdField (pack op cmd var arg) = cmd := by
  apply BitVec.eq_of_toNat_eq
  rw [cmdField, field_toNat, pack_toNat]; omega

@[simp] theorem varField_pack (op cmd var arg) : varField (pack op cmd var arg) = var := by
  apply BitVec.eq_of_toNat_eq
  rw [varField, field_toNat, pack_toNat]; omega

@[simp] theorem rsvField_pack (op cmd var arg) : rsvField (pack op cmd var arg) = 0 := by
  apply BitVec.eq_of_toNat_eq
  rw [rsvField, field_toNat, pack_toNat]; simp; omega

@[simp] theorem argField_pack (op cmd var arg) : argField (pack op cmd var arg) = arg := by
  apply BitVec.eq_of_toNat_eq
  rw [argField, field_toNat, pack_toNat]; omega

/-- A word is the packing of its fields where the reserved field is zero. -/
theorem pack_fields (w : Word) (h : rsvField w = 0) :
    pack (opField w) (cmdField w) (varField w) (argField w) = w := by
  have h' := congrArg BitVec.toNat h
  have hw := w.isLt
  apply BitVec.eq_of_toNat_eq
  rw [pack_toNat]
  simp only [rsvField, opField, cmdField, varField, argField, field_toNat] at *
  rw [show (0 : BitVec 6).toNat = 0 from rfl] at h'
  omega

@[simp] theorem catalogId_ofCode_code (c : CatalogId) : CatalogId.ofCode c.code = some c := by cases c <;> rfl

@[simp] theorem variant_ofCode_code (v : Variant) : Variant.ofCode v.code = some v := by cases v <;> rfl

@[simp] theorem delayClass_ofCode_code (k : DelayClass) : DelayClass.ofCode k.code = some k := by cases k <;> rfl

theorem catalogId_code_of_ofCode (b : BitVec 4) (c : CatalogId) (h : CatalogId.ofCode b = some c) : c.code = b := by
  revert b c; decide

theorem variant_code_of_ofCode (b : BitVec 2) (v : Variant) (h : Variant.ofCode b = some v) : v.code = b := by
  revert b v; decide

theorem delayClass_code_of_ofCode (b : BitVec 16) (k : DelayClass) (h : DelayClass.ofCode b = some k) :
    k.code = b := by
  apply BitVec.eq_of_toNat_eq
  unfold DelayClass.ofCode at h
  split at h <;> simp_all [DelayClass.code] <;> (subst h; simp)

end Sys2Proof
end

