-- ==== Sys2Proof/Laws/Memory.lean ====
section
/-! SUPPORT. The response buffer's laws: what a receive leaves in every cell, that the canonical form is kept, and what
the print actions read back (20_memory.md R66, R67). -/

namespace Sys2Proof.Machine

/-- A run of cells from `lo` on reads as the bytes it holds, and as no value elsewhere. -/
theorem read_ofBytes (r : List Byte) (lo i : Nat) :
    (Memory.ofBytes lo r).read i = if lo ≤ i then r[i - lo]? else none := by
  induction r generalizing lo with
  | nil => simp [Memory.ofBytes, Memory.read]
  | cons b rest ih =>
    simp only [Memory.ofBytes, Memory.read, ih]
    rcases Nat.lt_trichotomy lo i with h | h | h
    · obtain ⟨d, rfl⟩ := Nat.exists_eq_add_of_lt h
      have e1 : lo + d + 1 - (lo + 1) = d := by omega
      have e2 : lo + d + 1 - lo = d + 1 := by omega
      have n : ¬ lo = lo + d + 1 := by omega
      simp [e1, e2, n, Nat.le_of_lt h]
    · subst h; simp
    · have n1 : ¬ lo = i := by omega
      have n2 : ¬ lo + 1 ≤ i := by omega
      have n3 : ¬ lo ≤ i := by omega
      simp [n1, n2, n3]

/-- After `RxWrite(r)` every cell reads as `r` does (R66). -/
@[simp] theorem read_ofBytes_zero (r : List Byte) (i : Nat) : (Memory.ofBytes 0 r).read i = r[i]? := by
  simp [read_ofBytes]

@[simp] theorem read_nil (i : Nat) : Memory.read [] i = none := rfl

/-- Every run of cells is in canonical form. -/
@[simp] theorem wf_ofBytes (r : List Byte) (lo : Nat) : (Memory.ofBytes lo r).wf = true := by
  induction r generalizing lo with
  | nil => rfl
  | cons b rest ih =>
    cases rest with
    | nil => rfl
    | cons b' rest' => simpa [Memory.ofBytes, Memory.wf] using ih (lo + 1)

/-- Reset memory is in canonical form. -/
@[simp] theorem wf_nil : Memory.wf [] = true := rfl

/-- The only memory operation, `RxWrite`, keeps the canonical form, whatever the memory was. -/
theorem rxWrite_wf (s : State) (r : List Byte) : (s.rxWrite r).rxbuf.wf = true := wf_ofBytes r 0

/-- Where the first `RLEN` cells hold the bytes `b`, a range below `RLEN` reads as that range of `b`. -/
theorem rxReadRange_eq (s : State) (b : List Byte) (hlen : b.length = s.rlen.toNat)
    (hb : ∀ i, i < s.rlen.toNat → s.rxbuf.read i = b[i]?) (lo n : Nat) (h : lo + n ≤ s.rlen.toNat ∨ n = 0) :
    s.rxReadRange lo n = some ((b.drop lo).take n) := by
  induction n generalizing lo with
  | zero => simp [State.rxReadRange]
  | succ n ih =>
    have hlo : lo + (n + 1) ≤ s.rlen.toNat := by omega
    have hlt : lo < b.length := by omega
    have hr : s.rxRead lo = some b[lo] := by
      rw [State.rxRead, if_pos (by omega), hb lo (by omega), List.getElem?_eq_getElem hlt]
    rw [State.rxReadRange, hr, ih (lo + 1) (by omega), List.drop_eq_getElem_cons hlt, List.take_succ_cons]

/-- A range reads without a fault exactly where every one of its bytes does. -/
theorem rxReadRange_isSome (s : State) (lo n : Nat) :
    (s.rxReadRange lo n).isSome = true ↔ ∀ i, lo ≤ i → i < lo + n → (s.rxRead i).isSome = true := by
  induction n generalizing lo with
  | zero => simp [State.rxReadRange]; omega
  | succ n ih =>
    have step : (s.rxReadRange lo (n + 1)).isSome = true ↔
        (s.rxRead lo).isSome = true ∧ (s.rxReadRange (lo + 1) n).isSome = true := by
      rw [State.rxReadRange]
      cases s.rxRead lo <;> cases s.rxReadRange (lo + 1) n <;> simp
    rw [step, ih]
    constructor
    · rintro ⟨h0, h1⟩ i hi hin
      rcases Nat.eq_or_lt_of_le hi with rfl | hlt
      · exact h0
      · exact h1 i hlt (by omega)
    · exact fun h => ⟨h lo le_rfl (by omega), fun i hi hin => h i (by omega) (by omega)⟩

/-- A range that reads has the length asked for. -/
theorem rxReadRange_length (s : State) (lo n : Nat) (l : List Byte) (h : s.rxReadRange lo n = some l) :
    l.length = n := by
  induction n generalizing lo l with
  | zero => simp [State.rxReadRange] at h; simp [← h]
  | succ n ih =>
    rw [State.rxReadRange] at h
    cases h1 : s.rxRead lo <;> cases h2 : s.rxReadRange (lo + 1) n <;> simp [h1, h2] at h
    subst h
    simp [ih _ _ h2]

end Sys2Proof.Machine
end

