-- ==== Sys2Proof/Laws/State.lean ====
section
/-! SUPPORT. One lemma per field of State and per shared update of it: what the field is afterwards. -/

namespace Sys2Proof.Machine

/-! ### `retire` -/

@[simp] theorem retire_cfg (s : State) : s.retire.cfg = s.cfg := rfl
@[simp] theorem retire_refused (s : State) : s.retire.refused = s.refused := rfl
@[simp] theorem retire_seqPc (s : State) : s.retire.seqPc = s.seqPc + 1 := rfl
@[simp] theorem retire_sub (s : State) : s.retire.sub = .fetch := rfl
@[simp] theorem retire_cmdsel (s : State) : s.retire.cmdsel = s.cmdsel := rfl
@[simp] theorem retire_varsel (s : State) : s.retire.varsel = s.varsel := rfl
@[simp] theorem retire_exp (s : State) : s.retire.exp = s.exp := rfl
@[simp] theorem retire_rlen (s : State) : s.retire.rlen = s.rlen := rfl
@[simp] theorem retire_cur (s : State) : s.retire.cur = s.cur := rfl
@[simp] theorem retire_attempts (s : State) : s.retire.attempts = s.attempts := rfl
@[simp] theorem retire_fault (s : State) : s.retire.fault = s.fault := rfl
@[simp] theorem retire_faultPc (s : State) : s.retire.faultPc = s.faultPc := rfl
@[simp] theorem retire_lastEvt (s : State) : s.retire.lastEvt = s.lastEvt := rfl
@[simp] theorem retire_chcfg (s : State) : s.retire.chcfg = s.chcfg := rfl
@[simp] theorem retire_hsdone (s : State) : s.retire.hsdone = s.hsdone := rfl
@[simp] theorem retire_txto (s : State) : s.retire.txto = s.txto := rfl
@[simp] theorem retire_matched (s : State) : s.retire.matched = s.matched := rfl
@[simp] theorem retire_rxbuf (s : State) : s.retire.rxbuf = s.rxbuf := rfl
@[simp] theorem retire_trace (s : State) : s.retire.trace = s.trace := rfl
@[simp] theorem retire_console (s : State) : s.retire.console = s.console := rfl
@[simp] theorem retire_chan (s : State) : s.retire.chan = s.chan := rfl

/-! ### `raiseFault` -/

@[simp] theorem raiseFault_cfg (s : State) (code : FaultCode) : (s.raiseFault code).cfg = s.cfg := rfl
@[simp] theorem raiseFault_refused (s : State) (code : FaultCode) : (s.raiseFault code).refused = s.refused := rfl
@[simp] theorem raiseFault_seqPc (s : State) (code : FaultCode) : (s.raiseFault code).seqPc = s.seqPc := rfl
@[simp] theorem raiseFault_sub (s : State) (code : FaultCode) : (s.raiseFault code).sub = .faulted := rfl
@[simp] theorem raiseFault_cmdsel (s : State) (code : FaultCode) : (s.raiseFault code).cmdsel = s.cmdsel := rfl
@[simp] theorem raiseFault_varsel (s : State) (code : FaultCode) : (s.raiseFault code).varsel = s.varsel := rfl
@[simp] theorem raiseFault_exp (s : State) (code : FaultCode) : (s.raiseFault code).exp = s.exp := rfl
@[simp] theorem raiseFault_rlen (s : State) (code : FaultCode) : (s.raiseFault code).rlen = s.rlen := rfl
@[simp] theorem raiseFault_cur (s : State) (code : FaultCode) : (s.raiseFault code).cur = s.cur := rfl
@[simp] theorem raiseFault_attempts (s : State) (code : FaultCode) : (s.raiseFault code).attempts = s.attempts := rfl
@[simp] theorem raiseFault_fault (s : State) (code : FaultCode) : (s.raiseFault code).fault = code := rfl
@[simp] theorem raiseFault_faultPc (s : State) (code : FaultCode) : (s.raiseFault code).faultPc = s.seqPc := rfl
@[simp] theorem raiseFault_lastEvt (s : State) (code : FaultCode) : (s.raiseFault code).lastEvt = s.lastEvt := rfl
@[simp] theorem raiseFault_chcfg (s : State) (code : FaultCode) : (s.raiseFault code).chcfg = s.chcfg := rfl
@[simp] theorem raiseFault_hsdone (s : State) (code : FaultCode) : (s.raiseFault code).hsdone = s.hsdone := rfl
@[simp] theorem raiseFault_txto (s : State) (code : FaultCode) : (s.raiseFault code).txto = s.txto := rfl
@[simp] theorem raiseFault_matched (s : State) (code : FaultCode) : (s.raiseFault code).matched = s.matched := rfl
@[simp] theorem raiseFault_rxbuf (s : State) (code : FaultCode) : (s.raiseFault code).rxbuf = s.rxbuf := rfl
@[simp] theorem raiseFault_trace (s : State) (code : FaultCode) : (s.raiseFault code).trace = s.trace := rfl
@[simp] theorem raiseFault_console (s : State) (code : FaultCode) : (s.raiseFault code).console = s.console := rfl
@[simp] theorem raiseFault_chan (s : State) (code : FaultCode) : (s.raiseFault code).chan = s.chan := rfl

/-! ### `log` -/

@[simp] theorem log_cfg (s : State) (e : TraceEvent) : (s.log e).cfg = s.cfg := rfl
@[simp] theorem log_refused (s : State) (e : TraceEvent) : (s.log e).refused = s.refused := rfl
@[simp] theorem log_seqPc (s : State) (e : TraceEvent) : (s.log e).seqPc = s.seqPc := rfl
@[simp] theorem log_sub (s : State) (e : TraceEvent) : (s.log e).sub = s.sub := rfl
@[simp] theorem log_cmdsel (s : State) (e : TraceEvent) : (s.log e).cmdsel = s.cmdsel := rfl
@[simp] theorem log_varsel (s : State) (e : TraceEvent) : (s.log e).varsel = s.varsel := rfl
@[simp] theorem log_exp (s : State) (e : TraceEvent) : (s.log e).exp = s.exp := rfl
@[simp] theorem log_rlen (s : State) (e : TraceEvent) : (s.log e).rlen = s.rlen := rfl
@[simp] theorem log_cur (s : State) (e : TraceEvent) : (s.log e).cur = s.cur := rfl
@[simp] theorem log_attempts (s : State) (e : TraceEvent) : (s.log e).attempts = s.attempts := rfl
@[simp] theorem log_fault (s : State) (e : TraceEvent) : (s.log e).fault = s.fault := rfl
@[simp] theorem log_faultPc (s : State) (e : TraceEvent) : (s.log e).faultPc = s.faultPc := rfl
@[simp] theorem log_lastEvt (s : State) (e : TraceEvent) : (s.log e).lastEvt = s.lastEvt := rfl
@[simp] theorem log_chcfg (s : State) (e : TraceEvent) : (s.log e).chcfg = s.chcfg := rfl
@[simp] theorem log_hsdone (s : State) (e : TraceEvent) : (s.log e).hsdone = s.hsdone := rfl
@[simp] theorem log_txto (s : State) (e : TraceEvent) : (s.log e).txto = s.txto := rfl
@[simp] theorem log_matched (s : State) (e : TraceEvent) : (s.log e).matched = s.matched := rfl
@[simp] theorem log_rxbuf (s : State) (e : TraceEvent) : (s.log e).rxbuf = s.rxbuf := rfl
@[simp] theorem log_trace (s : State) (e : TraceEvent) : (s.log e).trace = s.trace ++ [e] := rfl
@[simp] theorem log_console (s : State) (e : TraceEvent) : (s.log e).console = s.console := rfl
@[simp] theorem log_chan (s : State) (e : TraceEvent) : (s.log e).chan = s.chan := rfl

/-! ### `emit` -/

@[simp] theorem emit_cfg (s : State) (r : ConsoleRecord) : (s.emit r).cfg = s.cfg := rfl
@[simp] theorem emit_refused (s : State) (r : ConsoleRecord) : (s.emit r).refused = s.refused := rfl
@[simp] theorem emit_seqPc (s : State) (r : ConsoleRecord) : (s.emit r).seqPc = s.seqPc := rfl
@[simp] theorem emit_sub (s : State) (r : ConsoleRecord) : (s.emit r).sub = s.sub := rfl
@[simp] theorem emit_cmdsel (s : State) (r : ConsoleRecord) : (s.emit r).cmdsel = s.cmdsel := rfl
@[simp] theorem emit_varsel (s : State) (r : ConsoleRecord) : (s.emit r).varsel = s.varsel := rfl
@[simp] theorem emit_exp (s : State) (r : ConsoleRecord) : (s.emit r).exp = s.exp := rfl
@[simp] theorem emit_rlen (s : State) (r : ConsoleRecord) : (s.emit r).rlen = s.rlen := rfl
@[simp] theorem emit_cur (s : State) (r : ConsoleRecord) : (s.emit r).cur = s.cur := rfl
@[simp] theorem emit_attempts (s : State) (r : ConsoleRecord) : (s.emit r).attempts = s.attempts := rfl
@[simp] theorem emit_fault (s : State) (r : ConsoleRecord) : (s.emit r).fault = s.fault := rfl
@[simp] theorem emit_faultPc (s : State) (r : ConsoleRecord) : (s.emit r).faultPc = s.faultPc := rfl
@[simp] theorem emit_lastEvt (s : State) (r : ConsoleRecord) : (s.emit r).lastEvt = s.lastEvt := rfl
@[simp] theorem emit_chcfg (s : State) (r : ConsoleRecord) : (s.emit r).chcfg = s.chcfg := rfl
@[simp] theorem emit_hsdone (s : State) (r : ConsoleRecord) : (s.emit r).hsdone = s.hsdone := rfl
@[simp] theorem emit_txto (s : State) (r : ConsoleRecord) : (s.emit r).txto = s.txto := rfl
@[simp] theorem emit_matched (s : State) (r : ConsoleRecord) : (s.emit r).matched = s.matched := rfl
@[simp] theorem emit_rxbuf (s : State) (r : ConsoleRecord) : (s.emit r).rxbuf = s.rxbuf := rfl
@[simp] theorem emit_trace (s : State) (r : ConsoleRecord) : (s.emit r).trace = s.trace := rfl
@[simp] theorem emit_console (s : State) (r : ConsoleRecord) : (s.emit r).console = s.console ++ [r] := rfl
@[simp] theorem emit_chan (s : State) (r : ConsoleRecord) : (s.emit r).chan = s.chan := rfl

/-! ### `delay` -/

@[simp] theorem delay_cfg (s : State) (k : DelayClass) : (s.delay k).cfg = s.cfg := rfl
@[simp] theorem delay_refused (s : State) (k : DelayClass) : (s.delay k).refused = s.refused := rfl
@[simp] theorem delay_seqPc (s : State) (k : DelayClass) : (s.delay k).seqPc = s.seqPc := rfl
@[simp] theorem delay_sub (s : State) (k : DelayClass) : (s.delay k).sub = s.sub := rfl
@[simp] theorem delay_cmdsel (s : State) (k : DelayClass) : (s.delay k).cmdsel = s.cmdsel := rfl
@[simp] theorem delay_varsel (s : State) (k : DelayClass) : (s.delay k).varsel = s.varsel := rfl
@[simp] theorem delay_exp (s : State) (k : DelayClass) : (s.delay k).exp = s.exp := rfl
@[simp] theorem delay_rlen (s : State) (k : DelayClass) : (s.delay k).rlen = s.rlen := rfl
@[simp] theorem delay_cur (s : State) (k : DelayClass) : (s.delay k).cur = s.cur := rfl
@[simp] theorem delay_attempts (s : State) (k : DelayClass) : (s.delay k).attempts = s.attempts := rfl
@[simp] theorem delay_fault (s : State) (k : DelayClass) : (s.delay k).fault = s.fault := rfl
@[simp] theorem delay_faultPc (s : State) (k : DelayClass) : (s.delay k).faultPc = s.faultPc := rfl
@[simp] theorem delay_lastEvt (s : State) (k : DelayClass) : (s.delay k).lastEvt = s.lastEvt := rfl
@[simp] theorem delay_chcfg (s : State) (k : DelayClass) : (s.delay k).chcfg = s.chcfg := rfl
@[simp] theorem delay_hsdone (s : State) (k : DelayClass) : (s.delay k).hsdone = s.hsdone := rfl
@[simp] theorem delay_txto (s : State) (k : DelayClass) : (s.delay k).txto = s.txto := rfl
@[simp] theorem delay_matched (s : State) (k : DelayClass) : (s.delay k).matched = s.matched := rfl
@[simp] theorem delay_rxbuf (s : State) (k : DelayClass) : (s.delay k).rxbuf = s.rxbuf := rfl
@[simp] theorem delay_trace (s : State) (k : DelayClass) : (s.delay k).trace = s.trace ++ [.delay k] := rfl
@[simp] theorem delay_console (s : State) (k : DelayClass) : (s.delay k).console = s.console := rfl
@[simp] theorem delay_chan (s : State) (k : DelayClass) : (s.delay k).chan = s.chan := rfl

/-! ### `rxWrite` -/

@[simp] theorem rxWrite_cfg (s : State) (r : List Byte) : (s.rxWrite r).cfg = s.cfg := rfl
@[simp] theorem rxWrite_refused (s : State) (r : List Byte) : (s.rxWrite r).refused = s.refused := rfl
@[simp] theorem rxWrite_seqPc (s : State) (r : List Byte) : (s.rxWrite r).seqPc = s.seqPc := rfl
@[simp] theorem rxWrite_sub (s : State) (r : List Byte) : (s.rxWrite r).sub = s.sub := rfl
@[simp] theorem rxWrite_cmdsel (s : State) (r : List Byte) : (s.rxWrite r).cmdsel = s.cmdsel := rfl
@[simp] theorem rxWrite_varsel (s : State) (r : List Byte) : (s.rxWrite r).varsel = s.varsel := rfl
@[simp] theorem rxWrite_exp (s : State) (r : List Byte) : (s.rxWrite r).exp = s.exp := rfl
@[simp] theorem rxWrite_rlen (s : State) (r : List Byte) : (s.rxWrite r).rlen = BitVec.ofNat 11 r.length := rfl
@[simp] theorem rxWrite_cur (s : State) (r : List Byte) : (s.rxWrite r).cur = s.cur := rfl
@[simp] theorem rxWrite_attempts (s : State) (r : List Byte) : (s.rxWrite r).attempts = s.attempts := rfl
@[simp] theorem rxWrite_fault (s : State) (r : List Byte) : (s.rxWrite r).fault = s.fault := rfl
@[simp] theorem rxWrite_faultPc (s : State) (r : List Byte) : (s.rxWrite r).faultPc = s.faultPc := rfl
@[simp] theorem rxWrite_lastEvt (s : State) (r : List Byte) : (s.rxWrite r).lastEvt = s.lastEvt := rfl
@[simp] theorem rxWrite_chcfg (s : State) (r : List Byte) : (s.rxWrite r).chcfg = s.chcfg := rfl
@[simp] theorem rxWrite_hsdone (s : State) (r : List Byte) : (s.rxWrite r).hsdone = s.hsdone := rfl
@[simp] theorem rxWrite_txto (s : State) (r : List Byte) : (s.rxWrite r).txto = s.txto := rfl
@[simp] theorem rxWrite_matched (s : State) (r : List Byte) : (s.rxWrite r).matched = s.matched := rfl
@[simp] theorem rxWrite_rxbuf (s : State) (r : List Byte) : (s.rxWrite r).rxbuf = Memory.ofBytes 0 r := rfl
@[simp] theorem rxWrite_trace (s : State) (r : List Byte) : (s.rxWrite r).trace = s.trace := rfl
@[simp] theorem rxWrite_console (s : State) (r : List Byte) : (s.rxWrite r).console = s.console := rfl
@[simp] theorem rxWrite_chan (s : State) (r : List Byte) : (s.rxWrite r).chan = s.chan := rfl

/-! ### `chConfigure` -/

@[simp] theorem chConfigure_cfg (s : State) : s.chConfigure.cfg = s.cfg := rfl
@[simp] theorem chConfigure_refused (s : State) : s.chConfigure.refused = s.refused := rfl
@[simp] theorem chConfigure_seqPc (s : State) : s.chConfigure.seqPc = s.seqPc := rfl
@[simp] theorem chConfigure_sub (s : State) : s.chConfigure.sub = s.sub := rfl
@[simp] theorem chConfigure_cmdsel (s : State) : s.chConfigure.cmdsel = s.cmdsel := rfl
@[simp] theorem chConfigure_varsel (s : State) : s.chConfigure.varsel = s.varsel := rfl
@[simp] theorem chConfigure_exp (s : State) : s.chConfigure.exp = s.exp := rfl
@[simp] theorem chConfigure_rlen (s : State) : s.chConfigure.rlen = s.rlen := rfl
@[simp] theorem chConfigure_cur (s : State) : s.chConfigure.cur = s.cur := rfl
@[simp] theorem chConfigure_attempts (s : State) : s.chConfigure.attempts = s.attempts := rfl
@[simp] theorem chConfigure_fault (s : State) : s.chConfigure.fault = s.fault := rfl
@[simp] theorem chConfigure_faultPc (s : State) : s.chConfigure.faultPc = s.faultPc := rfl
@[simp] theorem chConfigure_lastEvt (s : State) : s.chConfigure.lastEvt = s.lastEvt := rfl
@[simp] theorem chConfigure_chcfg (s : State) : s.chConfigure.chcfg = s.chcfg := rfl
@[simp] theorem chConfigure_hsdone (s : State) : s.chConfigure.hsdone = s.hsdone := rfl
@[simp] theorem chConfigure_txto (s : State) : s.chConfigure.txto = s.txto := rfl
@[simp] theorem chConfigure_matched (s : State) : s.chConfigure.matched = s.matched := rfl
@[simp] theorem chConfigure_rxbuf (s : State) : s.chConfigure.rxbuf = s.rxbuf := rfl
@[simp] theorem chConfigure_trace (s : State) : s.chConfigure.trace = s.trace ++ [.cfg s.chan.cfgAnswer] := rfl
@[simp] theorem chConfigure_console (s : State) : s.chConfigure.console = s.console := rfl
@[simp] theorem chConfigure_chan (s : State) : s.chConfigure.chan = s.chan.popCfg := rfl

/-! ### `chSend` -/

@[simp] theorem chSend_cfg (s : State) (c : CatalogId) : (s.chSend c).cfg = s.cfg := rfl
@[simp] theorem chSend_refused (s : State) (c : CatalogId) : (s.chSend c).refused = s.refused := rfl
@[simp] theorem chSend_seqPc (s : State) (c : CatalogId) : (s.chSend c).seqPc = s.seqPc := rfl
@[simp] theorem chSend_sub (s : State) (c : CatalogId) : (s.chSend c).sub = s.sub := rfl
@[simp] theorem chSend_cmdsel (s : State) (c : CatalogId) : (s.chSend c).cmdsel = s.cmdsel := rfl
@[simp] theorem chSend_varsel (s : State) (c : CatalogId) : (s.chSend c).varsel = s.varsel := rfl
@[simp] theorem chSend_exp (s : State) (c : CatalogId) : (s.chSend c).exp = s.exp := rfl
@[simp] theorem chSend_rlen (s : State) (c : CatalogId) : (s.chSend c).rlen = s.rlen := rfl
@[simp] theorem chSend_cur (s : State) (c : CatalogId) : (s.chSend c).cur = s.cur := rfl
@[simp] theorem chSend_attempts (s : State) (c : CatalogId) : (s.chSend c).attempts = s.attempts := rfl
@[simp] theorem chSend_fault (s : State) (c : CatalogId) : (s.chSend c).fault = s.fault := rfl
@[simp] theorem chSend_faultPc (s : State) (c : CatalogId) : (s.chSend c).faultPc = s.faultPc := rfl
@[simp] theorem chSend_lastEvt (s : State) (c : CatalogId) : (s.chSend c).lastEvt = s.lastEvt := rfl
@[simp] theorem chSend_chcfg (s : State) (c : CatalogId) : (s.chSend c).chcfg = s.chcfg := rfl
@[simp] theorem chSend_hsdone (s : State) (c : CatalogId) : (s.chSend c).hsdone = s.hsdone := rfl
@[simp] theorem chSend_txto (s : State) (c : CatalogId) : (s.chSend c).txto = s.txto := rfl
@[simp] theorem chSend_matched (s : State) (c : CatalogId) : (s.chSend c).matched = s.matched := rfl
@[simp] theorem chSend_rxbuf (s : State) (c : CatalogId) : (s.chSend c).rxbuf = s.rxbuf := rfl
@[simp] theorem chSend_trace (s : State) (c : CatalogId) :
    (s.chSend c).trace =
      s.trace ++ [.send c (s.frame c) s.chan.sendAnswer.result] := rfl
@[simp] theorem chSend_console (s : State) (c : CatalogId) : (s.chSend c).console = s.console := rfl
@[simp] theorem chSend_chan (s : State) (c : CatalogId) :
    (s.chSend c).chan =
      { s.chan.popSend with wire := s.chan.wire ++ s.chan.sendAnswer.onWire (s.frame c) } := rfl

/-! ### `chReceive` -/

@[simp] theorem chReceive_cfg (s : State) : s.chReceive.cfg = s.cfg := rfl
@[simp] theorem chReceive_refused (s : State) : s.chReceive.refused = s.refused := rfl
@[simp] theorem chReceive_seqPc (s : State) : s.chReceive.seqPc = s.seqPc := rfl
@[simp] theorem chReceive_sub (s : State) : s.chReceive.sub = s.sub := rfl
@[simp] theorem chReceive_cmdsel (s : State) : s.chReceive.cmdsel = s.cmdsel := rfl
@[simp] theorem chReceive_varsel (s : State) : s.chReceive.varsel = s.varsel := rfl
@[simp] theorem chReceive_exp (s : State) : s.chReceive.exp = s.exp := rfl
@[simp] theorem chReceive_rlen (s : State) : s.chReceive.rlen = BitVec.ofNat 11 s.received.length := rfl
@[simp] theorem chReceive_cur (s : State) : s.chReceive.cur = s.cur := rfl
@[simp] theorem chReceive_attempts (s : State) : s.chReceive.attempts = s.attempts := rfl
@[simp] theorem chReceive_fault (s : State) : s.chReceive.fault = s.fault := rfl
@[simp] theorem chReceive_faultPc (s : State) : s.chReceive.faultPc = s.faultPc := rfl
@[simp] theorem chReceive_lastEvt (s : State) : s.chReceive.lastEvt = s.lastEvt := rfl
@[simp] theorem chReceive_chcfg (s : State) : s.chReceive.chcfg = s.chcfg := rfl
@[simp] theorem chReceive_hsdone (s : State) : s.chReceive.hsdone = s.hsdone := rfl
@[simp] theorem chReceive_txto (s : State) : s.chReceive.txto = s.txto := rfl
@[simp] theorem chReceive_matched (s : State) : s.chReceive.matched = s.matched := rfl
@[simp] theorem chReceive_rxbuf (s : State) : s.chReceive.rxbuf = Memory.ofBytes 0 s.received := rfl
@[simp] theorem chReceive_trace (s : State) :
    s.chReceive.trace =
      s.trace ++ [TraceEvent.recv s.received.length s.received] := rfl
@[simp] theorem chReceive_console (s : State) : s.chReceive.console = s.console := rfl
@[simp] theorem chReceive_chan (s : State) : s.chReceive.chan = s.chan.popRecv := rfl

/-! ### Reset -/

@[simp] theorem resetWith_cfg (g : Config) : (State.resetWith g).cfg = g := rfl
@[simp] theorem resetWith_refused (g : Config) : (State.resetWith g).refused = g.defect := rfl
@[simp] theorem resetWith_seqPc (g : Config) : (State.resetWith g).seqPc = 0 := rfl
@[simp] theorem resetWith_sub (g : Config) : (State.resetWith g).sub = .fetch := rfl
@[simp] theorem resetWith_cmdsel (g : Config) : (State.resetWith g).cmdsel = .magic := rfl
@[simp] theorem resetWith_varsel (g : Config) : (State.resetWith g).varsel = .silent := rfl
@[simp] theorem resetWith_exp (g : Config) : (State.resetWith g).exp = 0 := rfl
@[simp] theorem resetWith_rlen (g : Config) : (State.resetWith g).rlen = 0 := rfl
@[simp] theorem resetWith_cur (g : Config) : (State.resetWith g).cur = g.cursorInit := rfl
@[simp] theorem resetWith_attempts (g : Config) : (State.resetWith g).attempts = 0 := rfl
@[simp] theorem resetWith_fault (g : Config) : (State.resetWith g).fault = .none := rfl
@[simp] theorem resetWith_faultPc (g : Config) : (State.resetWith g).faultPc = 0 := rfl
@[simp] theorem resetWith_lastEvt (g : Config) : (State.resetWith g).lastEvt = .none := rfl
@[simp] theorem resetWith_chcfg (g : Config) : (State.resetWith g).chcfg = false := rfl
@[simp] theorem resetWith_hsdone (g : Config) : (State.resetWith g).hsdone = false := rfl
@[simp] theorem resetWith_txto (g : Config) : (State.resetWith g).txto = false := rfl
@[simp] theorem resetWith_matched (g : Config) : (State.resetWith g).matched = false := rfl
@[simp] theorem resetWith_rxbuf (g : Config) : (State.resetWith g).rxbuf = [] := rfl
@[simp] theorem resetWith_trace (g : Config) : (State.resetWith g).trace = [] := rfl
@[simp] theorem resetWith_console (g : Config) : (State.resetWith g).console = [] := rfl
@[simp] theorem resetWith_chan (g : Config) : (State.resetWith g).chan = .idle := rfl

end Sys2Proof.Machine
end

