-- ==== Sys2Proof/Laws/Ops.lean ====
section
/-! SUPPORT. What the shared operations do, once each: byte order, the operand widths, the channel's answers, the
send of EXE and HSK, the prints of X_MATCH. -/

namespace Sys2Proof

/-! ### Byte order (20_memory.md R60, R62) -/

@[simp] theorem le32_length (v : Word) : (le32 v).length = 4 := by simp [le32]

/-- Reading `LE32(v)` back gives `v` (R11, R62). -/
@[simp] theorem le32Inv_le32 (v : Word) : le32Inv (le32 v) = v := by
  apply BitVec.eq_of_toNat_eq
  have hv := v.isLt
  simp only [le32Inv, le32, byteOf, List.getD_cons_zero, List.getD_cons_succ, field_toNat, BitVec.toNat_ofNat]
  omega

/-- `LE32` of four bytes read little-endian gives the bytes back (R11, R62). -/
theorem le32_le32Inv (a b c d : Byte) : le32 (le32Inv [a, b, c, d]) = [a, b, c, d] := by
  have ha := a.isLt; have hb := b.isLt; have hc := c.isLt; have hd := d.isLt
  have hn : a.toNat + 2 ^ 8 * b.toNat + 2 ^ 16 * c.toNat + 2 ^ 24 * d.toNat < 2 ^ 32 := by omega
  simp only [le32, byteOf, le32Inv, List.getD_cons_zero, List.getD_cons_succ, List.cons.injEq, and_true]
  refine ⟨?_, ?_, ?_, ?_⟩ <;> apply BitVec.eq_of_toNat_eq <;>
    simp only [field_toNat, BitVec.toNat_ofNat, Nat.mod_eq_of_lt hn] <;> omega

namespace Machine

/-! ### Operand widths -/

/-- A legal expected length fits `EXP` (R91). -/
theorem expOperand_toNat (e : BitVec 16) (h : e.toNat ≤ 1024) : (expOperand e).toNat = e.toNat := by
  rw [expOperand, BitVec.toNat_setWidth]; omega

/-- A legal target fits `SEQ_PC` (R27, R91). -/
theorem targetOperand_toNat (t : BitVec 16) (h : t.toNat < 256) : (targetOperand t).toNat = t.toNat := by
  rw [targetOperand, BitVec.toNat_setWidth]; omega

/-- The attempt count saturates (R132, R212). -/
theorem countAttempt_toNat (a : Word) : (countAttempt a).toNat = min (a.toNat + 1) (2 ^ 32 - 1) := by
  rw [countAttempt, BitVec.toNat_ofNat]; omega

/-- The matcher on numbers (R136). -/
theorem lengthMatches_iff (n e : BitVec 11) :
    lengthMatches n e = true ↔ (e.toNat = 0 ∨ n.toNat = e.toNat) := by
  simp [lengthMatches, ← BitVec.toNat_inj]

/-- The handshake test on numbers (R172). -/
theorem handshakeAccepts_iff (n : BitVec 11) : handshakeAccepts n = true ↔ n.toNat = hsAckLen := by
  simp [handshakeAccepts, ← BitVec.toNat_inj, hsAckLen]

theorem attemptsExhausted_iff (limit a : Word) :
    attemptsExhausted limit a = true ↔ (limit ≠ 0 ∧ a = limit) := by
  simp [attemptsExhausted]

/-! ### The channel -/

@[simp] theorem popCfg_wire (ch : Channel) : ch.popCfg.wire = ch.wire := by unfold Channel.popCfg; split <;> rfl
@[simp] theorem popCfg_sends (ch : Channel) : ch.popCfg.sends = ch.sends := by unfold Channel.popCfg; split <;> rfl
@[simp] theorem popCfg_receives (ch : Channel) : ch.popCfg.receives = ch.receives := by
  unfold Channel.popCfg; split <;> rfl
@[simp] theorem popCfg_configures (ch : Channel) : ch.popCfg.configures = ch.configures.tail := by
  unfold Channel.popCfg; split <;> simp_all
@[simp] theorem popSend_wire (ch : Channel) : ch.popSend.wire = ch.wire := by unfold Channel.popSend; split <;> rfl
@[simp] theorem popSend_configures (ch : Channel) : ch.popSend.configures = ch.configures := by
  unfold Channel.popSend; split <;> rfl
@[simp] theorem popSend_receives (ch : Channel) : ch.popSend.receives = ch.receives := by
  unfold Channel.popSend; split <;> rfl
@[simp] theorem popSend_sends (ch : Channel) : ch.popSend.sends = ch.sends.tail := by
  unfold Channel.popSend; split <;> simp_all
@[simp] theorem popRecv_wire (ch : Channel) : ch.popRecv.wire = ch.wire := by unfold Channel.popRecv; split <;> rfl
@[simp] theorem popRecv_configures (ch : Channel) : ch.popRecv.configures = ch.configures := by
  unfold Channel.popRecv; split <;> rfl
@[simp] theorem popRecv_sends (ch : Channel) : ch.popRecv.sends = ch.sends := by
  unfold Channel.popRecv; split <;> rfl
@[simp] theorem popRecv_receives (ch : Channel) : ch.popRecv.receives = ch.receives.tail := by
  unfold Channel.popRecv; split <;> simp_all

/-- A receive returns at most the bytes asked for (R114, R115 item 2). -/
theorem recvAnswer_length (ch : Channel) (max : Nat) : (ch.recvAnswer max).length ≤ max := by
  unfold Channel.recvAnswer; split <;> simp

theorem received_length (s : State) : s.received.length ≤ s.cfg.rxcap := recvAnswer_length _ _

/-- `RLEN` after a receive under an admitted configuration is the number of bytes received (R66). -/
theorem received_toNat (s : State) (h : s.cfg.defect = none) :
    (BitVec.ofNat 11 s.received.length).toNat = s.received.length := by
  have h1 := received_length s
  have h2 := (admitted_bounds _ h).2.2.2.2
  rw [BitVec.toNat_ofNat]; omega

/-- What reaches the wire is a prefix of the frame, all of it where the send completed (R112, R113). -/
theorem onWire_eq (a : SendAnswer) (f : List Byte) :
    ∃ k, a.onWire f = f.take k ∧ (a.result = .ok → f.take k = f) := by
  cases a with
  | ok => exact ⟨f.length, by simp [SendAnswer.onWire], by simp⟩
  | timeout k => exact ⟨k, rfl, by simp [SendAnswer.result]⟩

/-! ### Sends -/

/-- A send step ends in one of two states (R132, R171). -/
theorem sendStep_cases (s : State) (c : CatalogId) (onOk onTimeout : Sub) :
    (s.chan.sendAnswer.result = .ok ∧
      s.sendStep c onOk onTimeout = { s.chSend c with txto := false, sub := onOk }) ∨
    (s.chan.sendAnswer.result = .timeout ∧
      s.sendStep c onOk onTimeout =
        { (s.chSend c).emit (.txTimeout c) with txto := true, lastEvt := .txTimeout, sub := onTimeout }) := by
  unfold State.sendStep
  cases s.chan.sendAnswer.result <;> simp

/-- An attempt faults at the limit, and is otherwise counted and sent (R132, R171). -/
theorem attempt_cases (s : State) (c : CatalogId) (onOk onTimeout : Sub) :
    ((s.cfg.maxAttempts ≠ 0 ∧ s.attempts = s.cfg.maxAttempts) ∧
      s.attempt c onOk onTimeout = s.raiseFault .retryExhausted) ∨
    (¬ (s.cfg.maxAttempts ≠ 0 ∧ s.attempts = s.cfg.maxAttempts) ∧
      s.attempt c onOk onTimeout = { s.sendStep c onOk onTimeout with attempts := countAttempt s.attempts }) := by
  unfold State.attempt
  rw [← attemptsExhausted_iff]
  cases attemptsExhausted s.cfg.maxAttempts s.attempts <;> simp

/-! ### Frames -/

/-- A composed frame has its declared length (R64, R85). -/
theorem frame_length (s : State) (c : CatalogId) (h : s.cfg.defect = none) :
    (s.frame c).length = s.cfg.declLen c := by
  obtain ⟨hf, ha, -⟩ := admitted_bounds _ h
  have hc := hf c
  unfold State.frame Config.composed
  split
  · subst c; simp only [List.length_append, slice, List.length_take, List.length_drop, le32_length]; omega
  · simp only [slice, List.length_take, List.length_drop]; omega

/-- The frame depends on the configuration and the cursor alone (R64, R78). -/
theorem frame_congr (s t : State) (h1 : t.cfg = s.cfg) (h2 : t.cur = s.cur) (c : CatalogId) :
    t.frame c = s.frame c := by simp [State.frame, h1, h2]

/-! ### Fetch -/

/-- What FETCH reads depends on the configuration and `SEQ_PC` alone (R161, R93). -/
theorem fetched_congr (s t : State) (h1 : t.cfg = s.cfg) (h2 : t.seqPc = s.seqPc) : t.fetched = s.fetched := by
  simp [State.fetched, State.fetchWord, h1, h2]

/-- A fetched descriptor is the decoding of a word of the ROM (R161). -/
theorem fetched_some (s : State) (i : Instr) (h : s.fetched = some i) :
    ∃ w, s.fetchWord = some w ∧ decode s.cfg.rxcap s.cfg.romLen w = .instr i := by
  unfold State.fetched at h
  cases hw : s.fetchWord with
  | none => simp [hw] at h
  | some w =>
    cases hd : decode s.cfg.rxcap s.cfg.romLen w with
    | instr j => simp_all [Decoded.instr?]
    | illegal why => simp [hw, hd, Decoded.instr?] at h

/-- A fetched descriptor stands inside the ROM (R161). -/
theorem fetched_inRom (s : State) (i : Instr) (h : s.fetched = some i) : s.seqPc.toNat < s.cfg.romLen := by
  obtain ⟨w, hw, -⟩ := fetched_some s i h
  by_contra hlt
  have hn : s.fetchWord = none := List.getElem?_eq_none (by simpa [Config.romLen] using hlt)
  simp [hn] at hw

/-- A decoded EXE's expected length is at most `RXCAP`, and a decoded JMP's target is below `ROM_LEN` (R92). -/
theorem decode_ranges (rxcap romLen : Nat) (w : Word) (i : Instr) (h : decode rxcap romLen w = .instr i) :
    (∀ c e v, i = .exe c e v → e.toNat ≤ rxcap) ∧ (∀ j, i = .jmp j → j.toNat < romLen) := by
  unfold decode decodePlain decodeDly decodeExe decodeJmp at h
  repeat' split at h
  all_goals cases h
  all_goals simp_all

/-- A fetched EXE's expected length is at most `RXCAP` (R92). -/
theorem fetched_exe (s : State) (c : CatalogId) (e : BitVec 16) (v : Variant)
    (h : s.fetched = some (.exe c e v)) : e.toNat ≤ s.cfg.rxcap := by
  obtain ⟨w, -, hd⟩ := fetched_some s _ h
  exact (decode_ranges _ _ _ _ hd).1 c e v rfl

/-- A fetched JMP's target is below `ROM_LEN` (R92). -/
theorem fetched_jmp (s : State) (j : BitVec 16) (h : s.fetched = some (.jmp j)) : j.toNat < s.cfg.romLen := by
  obtain ⟨w, -, hd⟩ := fetched_some s _ h
  exact (decode_ranges _ _ _ _ hd).2 j rfl

/-! ### The prints of X_MATCH -/

/-- Whatever X_MATCH prints, it only appends to `CONSOLE` (R137, R138). -/
theorem printMatch_some (s u : State) (ok : Bool) (h : printMatch s ok = some u) :
    ∃ l, u = { s with console := s.console ++ l } := by
  unfold printMatch at h
  split at h
  · unfold printVerbose at h
    split at h
    · cases h
    · cases h; exact ⟨_, by simp [State.emit, List.append_assoc]; rfl⟩
  · unfold printSilent at h
    split at h
    · cases h
    · cases h; exact ⟨_, rfl⟩
  · cases h; exact ⟨[], by simp⟩

end Machine

end Sys2Proof
end

