-- ==== Sys2Proof/Laws/PerInstr.lean ====
section
/-! SUPPORT. A fact of each descriptor as syntax, one lemma per constructor of Instr: its word carries its operation code,
and its reserved field is zero (30_encoding.md R89, R90, R92). -/

namespace Sys2Proof.Laws.OpcodeField

/-- The word of `i` has `i`'s operation code in bits 31:28 and zero in bits 21:16. -/
def Statement (i : Instr) : Prop := opField (encode i) = i.op ∧ rsvField (encode i) = 0

theorem cfg : Statement .cfg := ⟨opField_pack .., rsvField_pack ..⟩
theorem dly (k : DelayClass) : Statement (.dly k) := ⟨opField_pack .., rsvField_pack ..⟩
theorem hsk : Statement .hsk := ⟨opField_pack .., rsvField_pack ..⟩
theorem exe (c : CatalogId) (e : BitVec 16) (v : Variant) : Statement (.exe c e v) :=
  ⟨opField_pack .., rsvField_pack ..⟩
theorem adv : Statement .adv := ⟨opField_pack .., rsvField_pack ..⟩
theorem jmp (t : BitVec 16) : Statement (.jmp t) := ⟨opField_pack .., rsvField_pack ..⟩
theorem stop : Statement .stop := ⟨opField_pack .., rsvField_pack ..⟩

end Sys2Proof.Laws.OpcodeField
end

