-- ==== Sys2Proof/Laws/Step.lean ====
section
/-! SUPPORT. What one step can do, said once: `step_cases` names every way a step answers a next state, and the whole of
that state. Claims about every step are proved from it by cases. -/

namespace Sys2Proof.Machine

/-- The ways a step leads from `s` to a next state. -/
inductive StepCase (s : State) : State → Prop where
  | overrun : s.sub = .fetch → s.fetchWord = none → s.fetched = none → StepCase s (s.raiseFault .seqOverrun)
  | illegal (w : Word) : s.sub = .fetch → s.fetchWord = some w → s.fetched = none → StepCase s (s.raiseFault .illegalDescriptor)
  | notConfigured : s.sub = .fetch → s.chcfg = false →
      (s.fetched = some .hsk ∨ ∃ c e v, s.fetched = some (.exe c e v)) → StepCase s (s.raiseFault .notConfigured)
  | reconfig : s.sub = .fetch → s.fetched = some .cfg → s.chcfg = true → StepCase s (s.raiseFault .reconfig)
  | exhausted : (s.sub = .xSend ∨ s.sub = .hMagic) → s.cfg.maxAttempts ≠ 0 → s.attempts = s.cfg.maxAttempts →
      StepCase s (s.raiseFault .retryExhausted)
  | cfgFail : s.sub = .fetch → s.fetched = some .cfg → s.chcfg = false → s.chan.cfgAnswer = .fail →
      StepCase s (s.chConfigure.raiseFault .configFatal)
  | cfgOk : s.sub = .fetch → s.fetched = some .cfg → s.chcfg = false → s.chan.cfgAnswer = .ok →
      StepCase s { s.chConfigure with chcfg := true }.retire
  | dly (k : DelayClass) : s.sub = .fetch → s.fetched = some (.dly k) → StepCase s (s.delay k).retire
  | hsk : s.sub = .fetch → s.fetched = some .hsk → s.chcfg = true →
      StepCase s { s with exp := BitVec.ofNat 11 hsAckLen, attempts := 0, sub := .hMagic }
  | exe (c : CatalogId) (e : BitVec 16) (v : Variant) : s.sub = .fetch → s.fetched = some (.exe c e v) →
      s.chcfg = true → c ≠ .baudSwitch →
      StepCase s { s with cmdsel := c, exp := expOperand e, varsel := v, attempts := 0, sub := .xSend }
  | adv : s.sub = .fetch → s.fetched = some .adv → StepCase s { s with cur := s.cur + s.cfg.stride }.retire
  | jmp (j : BitVec 16) : s.sub = .fetch → s.fetched = some (.jmp j) →
      StepCase s { s with seqPc := targetOperand j, sub := .fetch }
  | stop : s.sub = .fetch → s.fetched = some .stop → StepCase s { s with sub := .halted }
  | xSendOk : s.sub = .xSend → ¬ (s.cfg.maxAttempts ≠ 0 ∧ s.attempts = s.cfg.maxAttempts) →
      s.chan.sendAnswer.result = .ok →
      StepCase s { s.chSend s.cmdsel with attempts := countAttempt s.attempts, txto := false, sub := .xRecv }
  | xSendTimeout : s.sub = .xSend → ¬ (s.cfg.maxAttempts ≠ 0 ∧ s.attempts = s.cfg.maxAttempts) →
      s.chan.sendAnswer.result = .timeout →
      StepCase s { (s.chSend s.cmdsel).emit (.txTimeout s.cmdsel) with
        attempts := countAttempt s.attempts, txto := true, lastEvt := .txTimeout, sub := .xDelay }
  | xRecv : s.sub = .xRecv → StepCase s { s.chReceive with sub := .xMatch }
  | matched (l : List ConsoleRecord) : s.sub = .xMatch → lengthMatches s.rlen s.exp = true →
      StepCase s { s with matched := true, console := s.console ++ l, lastEvt := .matched }.retire
  | mismatch (l : List ConsoleRecord) : s.sub = .xMatch → lengthMatches s.rlen s.exp = false →
      StepCase s { s with matched := false, console := s.console ++ l, lastEvt := .lenMismatch, sub := .xDelay }
  | xDelay : s.sub = .xDelay → StepCase s { s.delay .xRetry with sub := .xSend }
  | hMagicOk : s.sub = .hMagic → ¬ (s.cfg.maxAttempts ≠ 0 ∧ s.attempts = s.cfg.maxAttempts) →
      s.chan.sendAnswer.result = .ok →
      StepCase s { s.chSend .magic with attempts := countAttempt s.attempts, txto := false, sub := .hReq }
  | hMagicTimeout : s.sub = .hMagic → ¬ (s.cfg.maxAttempts ≠ 0 ∧ s.attempts = s.cfg.maxAttempts) →
      s.chan.sendAnswer.result = .timeout →
      StepCase s { (s.chSend .magic).emit (.txTimeout .magic) with
        attempts := countAttempt s.attempts, txto := true, lastEvt := .txTimeout, sub := .hMagic }
  | hReqOk : s.sub = .hReq → s.chan.sendAnswer.result = .ok →
      StepCase s { s.chSend .handshake with txto := false, sub := .hRecv }
  | hReqTimeout : s.sub = .hReq → s.chan.sendAnswer.result = .timeout →
      StepCase s { (s.chSend .handshake).emit (.txTimeout .handshake) with
        txto := true, lastEvt := .txTimeout, sub := .hMagic }
  | acknowledged : s.sub = .hRecv → handshakeAccepts s.chReceive.rlen = true →
      StepCase s { s.chReceive with matched := true, hsdone := true, lastEvt := .hsAck }.retire
  | notReady : s.sub = .hRecv → handshakeAccepts s.chReceive.rlen = false →
      StepCase s { s.chReceive with matched := false, lastEvt := .hsNotReady, sub := .hDelay }
  | hDelay : s.sub = .hDelay → StepCase s { s.delay .hsRetry with sub := .hMagic }

/-- Without a mark a step is the one `SUB` selects (R160). -/
theorem step_unmarked (s : State) (h : s.refused = none) : step s = subStep s := by
  simp [step, admittedStep, h]

/-- A marked state runs no step (R208). -/
theorem step_marked (s : State) (d : ConfigDefect) (h : s.refused = some d) : step s = .refused (refusalOf d) := by
  simp [step, admittedStep, h]

/-- A step with a next state ran without a mark. -/
theorem unmarked_of_step (s t : State) (h : step s = .next t) : s.refused = none ∧ subStep s = .next t := by
  unfold step admittedStep at h
  split at h
  · cases h
  · exact ⟨‹_›, h⟩

/-- FETCH of a descriptor runs it (R161). -/
theorem fetchStep_fetched (s : State) (i : Instr) (h : s.fetched = some i) : fetchStep s = exec i s := by
  unfold State.fetched at h
  unfold fetchStep
  split at h
  · cases h
  · rename_i w hw
    cases hd : decode s.cfg.rxcap s.cfg.romLen w with
    | instr j =>
      simp only [hd, Decoded.instr?, Option.some.injEq] at h
      subst h; simp [hw, hd]
    | illegal why => simp [hd, Decoded.instr?] at h

/-- FETCH of nothing legal faults (R94, R161). -/
theorem fetchStep_not_fetched (s : State) (h : s.fetched = none) :
    (s.fetchWord = none ∧ fetchStep s = .next (s.raiseFault .seqOverrun)) ∨
      ((∃ w, s.fetchWord = some w) ∧ fetchStep s = .next (s.raiseFault .illegalDescriptor)) := by
  unfold State.fetched at h
  unfold fetchStep
  split at h
  · rename_i hw; exact .inl ⟨hw, by simp [hw]⟩
  · rename_i w hw
    cases hd : decode s.cfg.rxcap s.cfg.romLen w with
    | instr j => simp [hd, Decoded.instr?] at h
    | illegal why => exact .inr ⟨⟨w, hw⟩, by simp [hw, hd]⟩

/-- A next state of FETCH (R161). -/
theorem fetch_cases (s t : State) (hs : s.sub = .fetch) (h : fetchStep s = .next t) : StepCase s t := by
  cases hf : s.fetched with
  | none =>
    obtain ⟨hw, e⟩ | ⟨⟨w, hw⟩, e⟩ := fetchStep_not_fetched s hf
    · rw [e] at h; cases h; exact .overrun hs hw hf
    · rw [e] at h; cases h; exact .illegal w hs hw hf
  | some i =>
    rw [fetchStep_fetched s i hf] at h
    cases i with
    | cfg =>
      simp only [exec, execCfg, Host.Outcome.next.injEq] at h
      subst h
      split
      · exact .reconfig hs hf ‹_›
      · have hc : s.chcfg = false := by simpa using ‹¬ s.chcfg = true›
        split
        · exact .cfgFail hs hf hc ‹_›
        · exact .cfgOk hs hf hc ‹_›
    | dly k => cases h; exact .dly k hs hf
    | hsk =>
      simp only [exec, execHsk, Host.Outcome.next.injEq] at h
      subst h
      split
      · exact .notConfigured hs ‹_› (.inl hf)
      · exact .hsk hs hf (by simpa using ‹¬ s.chcfg = false›)
    | exe c e v =>
      simp only [exec, execExe] at h
      split at h
      · cases h; exact .notConfigured hs ‹_› (.inr ⟨c, e, v, hf⟩)
      · split at h
        · cases h
        · cases h; exact .exe c e v hs hf (by simpa using ‹¬ s.chcfg = false›) ‹_›
    | adv => cases h; exact .adv hs hf
    | jmp j => cases h; exact .jmp j hs hf
    | stop => cases h; exact .stop hs hf

/-- A next state of X_MATCH (R134). -/
theorem xMatch_cases (s t : State) (hs : s.sub = .xMatch) (h : xMatch s = .next t) : StepCase s t := by
  simp only [xMatch] at h
  split at h
  · cases h
  · rename_i u hu
    obtain ⟨l, rfl⟩ := printMatch_some _ _ _ hu
    cases h
    unfold matchEnd
    cases hm : lengthMatches s.rlen s.exp with
    | true => exact .matched l hs hm
    | false => exact .mismatch l hs hm

/-- Every next state of a step, and why it is the next state. -/
theorem step_cases (s t : State) (h : step s = .next t) : StepCase s t := by
  have h' := (unmarked_of_step s t h).2
  unfold subStep at h'
  split at h' <;> rename_i hs
  · exact fetch_cases s t hs h'
  · cases h'
    obtain ⟨hx, e⟩ | ⟨hx, e⟩ := attempt_cases s s.cmdsel .xRecv .xDelay
    · rw [e]; exact .exhausted (.inl hs) hx.1 hx.2
    · rw [e]
      obtain ⟨ha, e'⟩ | ⟨ha, e'⟩ := sendStep_cases s s.cmdsel .xRecv .xDelay
      · rw [e']; exact .xSendOk hs hx ha
      · rw [e']; exact .xSendTimeout hs hx ha
  · cases h'; exact .xRecv hs
  · exact xMatch_cases s t hs h'
  · cases h'; exact .xDelay hs
  · cases h'
    obtain ⟨hx, e⟩ | ⟨hx, e⟩ := attempt_cases s .magic .hReq .hMagic
    · rw [e]; exact .exhausted (.inr hs) hx.1 hx.2
    · rw [e]
      obtain ⟨ha, e'⟩ | ⟨ha, e'⟩ := sendStep_cases s .magic .hReq .hMagic
      · rw [e']; exact .hMagicOk hs hx ha
      · rw [e']; exact .hMagicTimeout hs hx ha
  · cases h'
    obtain ⟨ha, e⟩ | ⟨ha, e⟩ := sendStep_cases s .handshake .hRecv .hMagic
    · rw [e]; exact .hReqOk hs ha
    · rw [e]; exact .hReqTimeout hs ha
  · cases h'
    unfold handshakeEnd
    cases hm : handshakeAccepts s.chReceive.rlen with
    | true => exact .acknowledged hs hm
    | false => exact .notReady hs hm
  · cases h'; exact .hDelay hs
  · cases h'
  · cases h'

end Sys2Proof.Machine
end

