-- ==== Sys2Proof/Machine/Asm.lean ====
section
/-! DEFINITION. The assembler of the descriptor set (30_encoding.md R97, R98): source text to `SEQ_ROM` words. No step
uses it; it says what the spec's listings mean. -/

namespace Sys2Proof.Asm

/-! ### Text: lines, comments, tokens -/

/-- A piece of source text. -/
abbrev Text := List Char

/-- Cut a text at every character that `sep` picks; the pieces may be empty. -/
def cut (sep : Char → Bool) : Text → List Text
  | [] => [[]]
  | ch :: rest =>
    match cut sep rest with
    | [] => [[ch]]
    | piece :: more => if sep ch then [] :: piece :: more else (ch :: piece) :: more

/-- A line without its comment: `;` starts one (R97). -/
def uncomment (line : Text) : Text := line.takeWhile (· != ';')

/-- The tokens of a line: what spaces, tabs and commas separate. -/
def tokens (line : Text) : List Text :=
  (cut (fun ch => ch == ' ' || ch == '\t' || ch == '\r' || ch == ',') (uncomment line)).filter (· != [])

/-! ### Operands -/

/-- The value of a digit in a base up to 16. -/
def digit (base : Nat) (ch : Char) : Option Nat :=
  let n := ch.toNat
  let v :=
    if 48 ≤ n ∧ n ≤ 57 then n - 48
    else if 65 ≤ n ∧ n ≤ 70 then n - 55
    else if 97 ≤ n ∧ n ≤ 102 then n - 87
    else 16
  if v < base then some v else none

/-- A run of digits, most significant first, after the value `acc`. -/
def digits (base : Nat) : Nat → Text → Option Nat
  | acc, [] => some acc
  | acc, ch :: rest =>
    match digit base ch with
    | none => none
    | some d => digits base (acc * base + d) rest

/-- A number: `0x` hexadecimal or decimal (R97). -/
def number : Text → Option Nat
  | [] => none
  | '0' :: 'x' :: ch :: rest => digits 16 0 (ch :: rest)
  | ch :: rest => digits 10 0 (ch :: rest)

/-- A number that fits the 16-bit ARG field. -/
def arg (t : Text) : Option (BitVec 16) :=
  match number t with
  | none => none
  | some n => if n < 2 ^ 16 then some (BitVec.ofNat 16 n) else none

/-- `<cmd>`: a catalog name of R86 or its id. -/
def catalogId (t : Text) : Option CatalogId :=
  if t = "MAGIC".toList then some .magic
  else if t = "HANDSHAKE".toList then some .handshake
  else if t = "BAUD_SWITCH".toList then some .baudSwitch
  else if t = "IDENTITY".toList then some .identity
  else if t = "STATUS".toList then some .status
  else if t = "SUB1".toList then some .sub1
  else if t = "SUB2".toList then some .sub2
  else if t = "SUB3".toList then some .sub3
  else if t = "FLASH_READ".toList then some .flashRead
  else
    match number t with
    | none => none
    | some n => if n < 16 then CatalogId.ofCode (BitVec.ofNat 4 n) else none

/-- `S` or `V`. -/
def variant (t : Text) : Option Variant :=
  if t = "S".toList then some .silent else if t = "V".toList then some .verbose else none

/-- A delay class, by name or number. -/
def delayClass (t : Text) : Option DelayClass :=
  if t = "SETTLE".toList then some .settle
  else if t = "HSRETRY".toList then some .hsRetry
  else if t = "XRETRY".toList then some .xRetry
  else if t = "POSTHS".toList then some .postHs
  else
    match arg t with
    | none => none
    | some b => DelayClass.ofCode b

/-! ### Lines -/

/-- What a line leaves in the program: a label's binding, a descriptor, or a jump whose target is not yet an index. -/
inductive Item where
  | label (name : Text)
  | op (i : Instr)
  | jump (target : Text)
  deriving DecidableEq, Repr

/-- `EXE <cmd>, <exp>, <variant>` from its parsed operands. -/
def exeItem : Option CatalogId → Option (BitVec 16) → Option Variant → Option (List Item)
  | some c, some e, some v => some [.op (.exe c e v)]
  | _, _, _ => none

/-- The tokens of one operation (R97), or of a pseudo-instruction, which expands textually (R98). -/
def operation : List Text → Option (List Item)
  | [] => some []
  | [m] =>
    if m = "CFG".toList then some [.op .cfg]
    else if m = "HSK".toList then some [.op .hsk]
    else if m = "ADV".toList then some [.op .adv]
    else if m = "STOP".toList then some [.op .stop]
    else if m = "BRINGUP".toList then
      some [.op (.exe .identity 20 .verbose), .op (.exe .sub1 12 .verbose),
        .op (.exe .sub2 12 .verbose), .op (.exe .sub3 12 .verbose)]
    else if m = "DUMPLOOP".toList then
      some [.label "L".toList, .op (.exe .flashRead 0x3D .silent), .op .adv, .jump "L".toList]
    else none
  | [m, a] =>
    if m = "DLY".toList then (delayClass a).map fun k => [.op (.dly k)]
    else if m = "JMP".toList then some [.jump a]
    else none
  | [m, a, b] => if m = "EXEANY".toList then exeItem (catalogId a) (some 0) (variant b) else none
  | [m, a, b, d] => if m = "EXE".toList then exeItem (catalogId a) (arg b) (variant d) else none
  | _ => none

/-- One line: `label:` binds the index of the next operation, which may stand on the same line (R97). -/
def lineItems (line : Text) : Option (List Item) :=
  match tokens line with
  | [] => some []
  | first :: rest =>
    if first.getLast? = some ':' then (operation rest).map fun l => .label first.dropLast :: l
    else operation (first :: rest)

/-- The items of all lines; `none` if one line is none of R97's forms. -/
def items : List Text → Option (List Item)
  | [] => some []
  | line :: rest =>
    match lineItems line, items rest with
    | some a, some b => some (a ++ b)
    | _, _ => none

/-! ### Labels -/

/-- Where each label is bound, `n` being the index of the next operation (R97). DESIGN CHOICE, safe
(notes/assumptions/17.md): R97 does not say what a label with no operation after it names; it is bound to the number of
words assembled. -/
def bindings : Nat → List Item → List (Text × Nat)
  | _, [] => []
  | n, .label name :: rest => (name, n) :: bindings n rest
  | n, _ :: rest => bindings (n + 1) rest

/-- Whether no label is bound twice. -/
def distinct : List (Text × Nat) → Bool
  | [] => true
  | (name, _) :: rest => rest.all (fun p => p.1 != name) && distinct rest

/-- A label's index; `none` where it is not bound. -/
def labelIndex (tab : List (Text × Nat)) (name : Text) : Option Nat :=
  match tab.find? (fun p => p.1 == name) with
  | some p => some p.2
  | none => none

/-- A jump's target: a label or an index (R97). DESIGN CHOICE, safe (notes/assumptions/17.md): R97 gives labels no
spelling, so a label may be spelled as a number, and an operand that names a bound label is that label. -/
def targetOf (tab : List (Text × Nat)) (t : Text) : Option (BitVec 16) :=
  match labelIndex tab t with
  | some n => if n < 2 ^ 16 then some (BitVec.ofNat 16 n) else none
  | none => arg t

/-- The words of the items, in order. -/
def emit (tab : List (Text × Nat)) : List Item → Option (List Word)
  | [] => some []
  | .label _ :: rest => emit tab rest
  | .op i :: rest => (emit tab rest).map fun l => encode i :: l
  | .jump t :: rest =>
    match targetOf tab t, emit tab rest with
    | some b, some l => some (encode (.jmp b) :: l)
    | _, _ => none

/-- Source text to ROM words; `none` where a line is not of R97's or R98's forms, or a label is bound twice (DESIGN CHOICE,
safe, notes/assumptions/17.md). -/
def assemble (source : String) : Option (List Word) :=
  match items (cut (· == '\n') source.toList) with
  | none => none
  | some l => if distinct (bindings 0 l) then emit (bindings 0 l) l else none

end Sys2Proof.Asm
end

