-- ==== Sys2Proof/Tests/Slice0.lean ====
section
/-! SUPPORT. The model's own tests. Expected values come from spec/95_test_vectors.md (the vector is named) or are written
out by hand from the rule named; a `witness_` theorem shows a concrete input that meets the hypotheses of the obligation it
is named after. -/

namespace Sys2Proof.Tests

open Sys2Proof.Machine

/-! ### A small configuration -/

/-- `n` bytes counting up from `b`. -/
def count (b n : Nat) : List Byte := (List.range n).map fun i => BitVec.ofNat 8 (b + i)

/-- The test catalog of L2-FR (`FLASH_READ` of 8 bytes, `ADDR_OFF` 2), with short frames for the other ids. -/
def demo (rom : List Word) (limit : Word) : Config :=
  { rxcap := 64
    hOff := 0x20
    stride := 0x1C#32
    catalog :=
      { magic := ⟨count 0x10 4, 4⟩, handshake := ⟨count 0x20 2, 2⟩, baudSwitch := ⟨count 0x30 1, 1⟩
        identity := ⟨count 0x40 3, 3⟩, status := ⟨count 0x50 1, 1⟩, sub1 := ⟨count 0x60 2, 2⟩
        sub2 := ⟨count 0x70 2, 2⟩, sub3 := ⟨count 0x80 2, 2⟩
        flashRead := ⟨[0xA0, 0xA1, 0x38, 0x00, 0x00, 0x00, 0xA6, 0x00], 8⟩ }
    addrOff := 2
    padStart := some 7
    seqRom := rom
    maxAttempts := limit
    checksumCheck := false
    line := default
    timing := default }

/-- CFG; HSK; EXE IDENTITY, 20, V; EXE STATUS, 0, S; ADV; JMP 8; DLY HSRETRY; STOP; a word that is illegal. -/
def rom : List Word :=
  [0x10000000#32, 0x30000000#32, 0x43400014#32, 0x44000000#32, 0x50000000#32, 0x60000008#32, 0x20000001#32,
    0x70000000#32, 0x80000000#32]

/-- The machine at index `pc` of that ROM, about to do the step `sub`. -/
def state (pc : BitVec 8) (sub : Sub) : State :=
  { State.resetWith (demo rom 0#32) with seqPc := pc, sub := sub, chcfg := true }

/-- The channel's pending answers: `sends`, then the receives' lengths. -/
def answers (sends : List SendAnswer) (receives : List Nat) : Channel :=
  { Channel.idle with sends := sends, receives := receives.map (count 0) }

/-- A running EXE IDENTITY, 20, V that has received `n` bytes. -/
def matching (n : Nat) (v : Variant) (e : BitVec 11) : State :=
  { state 2 .xMatch with
    cmdsel := .identity, varsel := v, exp := e, attempts := 1
    rlen := BitVec.ofNat 11 n, rxbuf := Memory.ofBytes 0 (count 0 n) }

/-- A running EXE IDENTITY, 20, V in the given sub-state, with the given attempt count and limit. -/
def executing (sub : Sub) (attempts limit : Word) (sends : List SendAnswer) (receives : List Nat) : State :=
  { state 2 sub with
    cfg := demo rom limit, cmdsel := .identity, varsel := .verbose, exp := 20, attempts := attempts
    chan := answers sends receives }

/-- A running HSK in the given sub-state, with the given attempt count and limit. -/
def shaking (sub : Sub) (attempts limit : Word) (sends : List SendAnswer) (receives : List Nat) : State :=
  { state 1 sub with cfg := demo rom limit, exp := 12, attempts := attempts, chan := answers sends receives }

/-- The next state, if the outcome is one. -/
def nextOf : Host.Outcome State Fault Refusal → Option State
  | .next s => some s
  | .fault _ => none
  | .refused _ => none

/-- What one step leaves in a projection of the state. -/
def after {α : Type} (s : State) (f : State → α) : Option α := (nextOf (step s)).map f

/-! ### WellFormed: each check refuses an ill-formed descriptor (R92) -/

theorem test_wf_plain : [Instr.cfg, .dly .postHs, .hsk, .adv, .stop].all (Instr.wf 1024 11) = true := by decide
theorem test_wf_exe_at_rxcap : (Instr.exe .status 1024 .silent).wf 1024 11 = true := by decide
theorem test_illformed_exe_above_rxcap : (Instr.exe .status 1025 .silent).wf 1024 11 = false := by decide
theorem test_wf_jmp_last_index : (Instr.jmp 10).wf 1024 11 = true := by decide
theorem test_illformed_jmp_at_rom_len : (Instr.jmp 11).wf 1024 11 = false := by decide

/-! ### Decode: the words of L2-DEC, `RXCAP = 1024`, `ROM_LEN = 11` -/

theorem test_decode_cfg : decode 1024 11 0x10000000#32 = .instr .cfg := by decide
theorem test_decode_dly : decode 1024 11 0x20000000#32 = .instr (.dly .settle) ∧
    decode 1024 11 0x20000003#32 = .instr (.dly .postHs) := by decide
theorem test_decode_hsk : decode 1024 11 0x30000000#32 = .instr .hsk := by decide
theorem test_decode_exe : decode 1024 11 0x43400014#32 = .instr (.exe .identity 20 .verbose) ∧
    decode 1024 11 0x4800003D#32 = .instr (.exe .flashRead 61 .silent) ∧
    decode 1024 11 0x44000000#32 = .instr (.exe .status 0 .silent) ∧
    decode 1024 11 0x40000400#32 = .instr (.exe .magic 1024 .silent) ∧
    decode 1024 11 0x42000000#32 = .instr (.exe .baudSwitch 0 .silent) := by decide
/-- R86: ids 0 to 8. -/
theorem test_decode_ids : (List.range 9).map (fun n => decode 1024 11 (BitVec.ofNat 32 (0x40000000 + n * 0x01000000))) =
    CatalogId.all.map fun c => .instr (.exe c 0 .silent) := by decide
theorem test_decode_adv : decode 1024 11 0x50000000#32 = .instr .adv := by decide
theorem test_decode_jmp : decode 1024 11 0x6000000A#32 = .instr (.jmp 10) := by decide
theorem test_decode_stop : decode 1024 11 0x70000000#32 = .instr .stop := by decide
theorem test_illegal_op : [0x00000000#32, 0x80000000#32, 0xF0000000#32].map (decode 1024 11) =
    List.replicate 3 (.illegal .opCode) := by decide
theorem test_illegal_fields :
    [0x10000001#32, 0x20010000#32, 0x30400000#32, 0x43410014#32, 0x5000001C#32, 0x60010008#32,
      0x7FFFFFFF#32].map (decode 1024 11) = List.replicate 7 (.illegal .notZero) := by decide
theorem test_illegal_operands :
    decode 1024 11 0x20000004#32 = .illegal .delayClass ∧ decode 1024 11 0x40000401#32 = .illegal .expectedLength ∧
      decode 1024 11 0x49000000#32 = .illegal .catalogId ∧ decode 1024 11 0x43800014#32 = .illegal .variant ∧
      decode 1024 11 0x43C00014#32 = .illegal .variant ∧ decode 1024 11 0x6000000B#32 = .illegal .target := by decide
/-- R97's encodings, R190's words. -/
theorem test_encode : [Instr.cfg, .dly .settle, .hsk, .exe .identity 20 .verbose, .exe .sub1 12 .verbose,
    .exe .sub2 12 .verbose, .exe .sub3 12 .verbose, .dly .postHs, .exe .flashRead 0x3D .silent, .adv,
    .jmp 8].map encode = referenceRom := by decide
theorem test_table_word : decodeTableWord 32 0x60000000 = some (.jmp 0) ∧
    decodeTableWord 32 0x00000000 = none := by decide

/-! ### The assembler (R97, R98) -/

theorem test_assemble_labels :
    Asm.assemble "dump: EXE FLASH_READ, 0x3D, S ; 8\n ADV\n JMP dump" =
      some [0x4800003D#32, 0x50000000#32, 0x60000000#32] := by decide
theorem test_assemble_bringup : Asm.assemble "BRINGUP" =
    some [0x43400014#32, 0x4540000C#32, 0x4640000C#32, 0x4740000C#32] := by decide
theorem test_assemble_rejects : Asm.assemble "DLY 4" = none ∧ Asm.assemble "EXE 9, 0, S" = none ∧
    Asm.assemble "JMP nowhere" = none ∧ Asm.assemble "a: ADV\na: ADV" = none := by decide
/-- The model's choice (notes/assumptions/17.md): a bound label comes before the index of its spelling. -/
theorem test_assemble_number_label : Asm.assemble "ADV\n0: ADV\nJMP 0" =
    some [0x50000000#32, 0x50000000#32, 0x60000001#32] := by decide

/-! ### Operations (L2-FR, L2-MATCH, L2-PRINT, the memory) -/

theorem test_le32 : le32 0x12345678#32 = [0x78, 0x56, 0x34, 0x12] ∧ le32 0xFFFFFFEC#32 = [0xEC, 0xFF, 0xFF, 0xFF] := by
  decide
theorem test_frame_splices_cursor : (demo rom 0#32).composed 0x12345678#32 .flashRead =
    [0xA0, 0xA1, 0x78, 0x56, 0x34, 0x12, 0xA6, 0x00] := by decide
theorem test_match : [(0, 0), (1, 0), (1024, 0), (12, 12), (0x3D, 0x3D), (1024, 1024)].all
    (fun p => lengthMatches p.1 p.2) = true := by decide
theorem test_no_match : [(0, 12), (11, 12), (13, 12), (12, 20), (0x3C, 0x3D)].all
    (fun p => !lengthMatches p.1 p.2) = true := by decide
theorem test_handshake_lengths : handshakeAccepts 12 = true ∧
    [0, 1, 11, 13, 20, 1024].all (fun n => !handshakeAccepts n) = true := by decide
theorem test_silent_count : [0, 1, 5, 32, 33, 34, 61].map (silentCount 0x20) = [0, 0, 0, 0, 0, 1, 28] := by decide
theorem test_count_saturates : countAttempt 0xFFFFFFFF#32 = 0xFFFFFFFF#32 ∧ countAttempt 0#32 = 1#32 := by decide
theorem test_memory_wf : Memory.wf [(0, 1), (1, 2)] = true ∧ Memory.wf [(1, 2), (0, 1)] = false ∧
    Memory.wf [(0, 1), (0, 1)] = false := by decide
/-- R66: a shorter receive leaves no value past its end. -/
theorem test_receive_overwrites : (((state 2 .xRecv).rxWrite (count 0 20)).rxWrite (count 7 2)).rxbuf =
    [(0, 7), (1, 8)] := by decide

/-! ### Reset and configurations -/

/-- Whatever the OPEN values are (R8). -/
theorem test_reset_admitted : State.reset.admitted := ⟨rfl, reference_admitted⟩
theorem test_reset_status : State.reset.status = 0#32 := by decide
theorem test_cursor_init : (State.resetWith (demo rom 0#32)).cur = 0x38#32 := by decide
theorem test_demo_admitted : (demo rom 0#32).defect = none := by decide
theorem test_refused_configurations :
    (demo [] 0#32).defect = some (.catalog .romLength) ∧
      ({ demo [] 0#32 with checksumCheck := true } : Config).defect = some .checksumPolicy ∧
      ({ demo rom 0#32 with rxcap := 1025 } : Config).defect = some (.catalog .bufferCapacity) ∧
      ({ demo rom 0#32 with addrOff := 5 } : Config).defect = some (.catalog .addressField) ∧
      ({ demo rom 0#32 with padStart := some 6 } : Config).defect = some (.catalog .padding) ∧
      ({ demo rom 0#32 with hOff := 64 } : Config).defect = some (.catalog .headerOffset) := by decide
theorem test_mark_stops_every_step : step { state 4 .fetch with refused := some .checksumPolicy } =
    .refused .checksumPolicy := rfl

/-! ### Single steps -/

/-- CFG-1's first step. -/
theorem test_cfg_ok : after { State.resetWith (demo rom 0#32) with chan := { Channel.idle with configures := [.ok] } }
    (fun t => (t.status, t.trace)) = some (0x00011000#32, [.cfg .ok]) := by decide
/-- CFG-2. -/
theorem test_cfg_fail : after { State.resetWith (demo rom 0#32) with chan := { Channel.idle with configures := [.fail] } }
    (fun t => (t.status, t.trace)) = some (0x0000010A#32, [.cfg .fail]) := by decide
/-- DLY-1's second step, for class 1. -/
theorem test_dly : after (state 6 .fetch) (fun t => (t.seqPc, t.sub, t.trace)) =
    some (7, .fetch, [.delay .hsRetry]) := by decide
/-- P2, step 2. -/
theorem test_hsk_fetch : after (state 1 .fetch) (fun t => (t.sub, t.seqPc, t.exp, t.attempts)) =
    some (.hMagic, 1, 12, 0) := by decide
/-- HSK-6. -/
theorem test_hsk_unconfigured : after { state 1 .fetch with chcfg := false } State.status = some 0x0001040A#32 := by decide
/-- R131's example. -/
theorem test_exe_fetch : after (state 2 .fetch) (fun t => (t.cmdsel, t.exp, t.varsel, t.attempts, t.sub)) =
    some (.identity, 20, .verbose, 0, .xSend) := by decide
/-- EXE-2's intermediate state after its first X_MATCH. -/
theorem test_exe_mismatch : after { matching 12 .verbose 20 with seqPc := 1 } (fun t => (t.status, t.console)) =
    some (0x00011024#32, [.vLen 12, .vDump (count 0 12), .vCmp 12 20 false]) := by decide
/-- ADV-2. -/
theorem test_adv : after (state 4 .fetch) (fun t => (t.cur, t.seqPc)) = some (0x54#32, 5) := by decide
/-- ADV-3. -/
theorem test_adv_wraps : after { state 4 .fetch with cur := 0xFFFFFFF0#32 } State.cur = some 0x0000000C#32 := by decide
/-- JMP-2, at index 5. -/
theorem test_jmp : after (state 5 .fetch) (fun t => (t.seqPc, t.sub)) = some (8, .fetch) := by decide
/-- R180's example: the STOP's index stays. -/
theorem test_stop : after (state 7 .fetch) (fun t => (t.seqPc, t.sub)) = some (7, .halted) := by decide
/-- EXE-3's first send. -/
theorem test_send_timeout : after (executing .xSend 0#32 0#32 [.timeout 2] [])
    (fun t => (t.sub, t.txto, t.lastEvt, t.console, t.chan.wire)) =
      some (.xDelay, true, .txTimeout, [.txTimeout .identity], [0x40, 0x41]) := by decide
/-- HSK-5's receive step. -/
theorem test_hsk_13_bytes : after (shaking .hRecv 1#32 0#32 [] [13])
    (fun t => (t.sub, t.rlen, t.matched, t.lastEvt, t.hsdone, t.seqPc)) =
      some (.hDelay, 13, false, .hsNotReady, false, 1) := by decide
/-- The STATUS of HSK-7's end, at `ROM` index 1. -/
theorem test_hsk_limit : after { shaking .hMagic 1#32 1#32 [] [] with lastEvt := .hsNotReady } State.status =
    some 0x0001163A#32 := by decide
/-- EXE-11. -/
theorem test_attempts_saturate : after (executing .xSend 0xFFFFFFFF#32 0#32 [.timeout 0] [])
    (fun t => (t.attempts, t.sub)) = some (0xFFFFFFFF#32, .xDelay) := by decide
/-- L2-PRINT: 34 bytes print index 0x20 only, and an accepted empty response prints nothing. -/
theorem test_silent_print : after (matching 34 .silent 0) State.console = some [.sPayload [0x20]] ∧
    after (matching 0 .silent 0) State.console = some [.sPayload []] := by decide
/-- F-1's fault, at index 9 of a 9-word ROM. -/
theorem test_overrun : after (state 9 .fetch) (fun t => (t.fault, t.faultPc, t.seqPc)) = some (.seqOverrun, 9, 9) := by
  decide
theorem test_illegal_word : after (state 8 .fetch) (fun t => (t.fault, t.faultPc, t.sub)) =
    some (.illegalDescriptor, 8, .faulted) := by decide
/-- F-4. -/
theorem test_faulted_has_no_step : step { state 8 .faulted with fault := .illegalDescriptor } =
    .fault (.faulted .illegalDescriptor) := rfl

/-! ### Witnesses: inputs that meet the hypotheses of the obligations -/

theorem witness_EncodeThenDecode : (Instr.exe .flashRead 1024 .verbose).wf 1024 11 = true ∧
    (Instr.jmp 254).wf 1024 255 = true := by decide
theorem witness_DecodeThenEncode : decode 1024 11 0x48400400#32 = .instr (.exe .flashRead 1024 .verbose) := by decide
theorem witness_OperandsAreFields : decode 64 9 0x48400040#32 = .instr (.exe .flashRead 64 .verbose) ∧
    decode 64 9 0x20000003#32 = .instr (.dly .postHs) ∧ decode 64 9 0x60000008#32 = .instr (.jmp 8) := by decide

theorem witness_StepRunsDecoded : (state 2 .fetch).admitted ∧ (state 2 .fetch).sub = .fetch ∧
    (state 2 .fetch).cfg.seqRom[(state 2 .fetch).seqPc.toNat]? = some 0x43400014#32 ∧
    decode (state 2 .fetch).cfg.rxcap (state 2 .fetch).cfg.romLen 0x43400014#32 = .instr (.exe .identity 20 .verbose) := by
  decide
theorem witness_PlacedWordRuns : State.reset.refused = none ∧
    decode State.reset.cfg.rxcap (State.reset.withFetchWord 32 (0x4800003D#32).toNat).cfg.romLen 0x4800003D#32 =
      .instr (.exe .flashRead 0x3D .silent) ∧ State.reset.cfg.defect = none :=
  ⟨rfl, by decide, reference_admitted⟩
theorem witness_OverrunFaults : (state 9 .fetch).admitted ∧ (state 9 .fetch).sub = .fetch ∧
    (state 9 .fetch).cfg.romLen ≤ (state 9 .fetch).seqPc.toNat := by decide
theorem witness_IllegalWordFaults : (state 8 .fetch).admitted ∧ (state 8 .fetch).sub = .fetch ∧
    (state 8 .fetch).cfg.seqRom[(state 8 .fetch).seqPc.toNat]? = some 0x80000000#32 ∧
    ∀ i, decode (state 8 .fetch).cfg.rxcap (state 8 .fetch).cfg.romLen 0x80000000#32 ≠ .instr i := by
  refine ⟨by decide, rfl, rfl, fun i => ?_⟩
  rw [show decode (state 8 .fetch).cfg.rxcap (state 8 .fetch).cfg.romLen 0x80000000#32 = .illegal .opCode by decide]
  exact Decoded.noConfusion

/-- The machine at CFG, unconfigured, with a configure's answer waiting. -/
def configuring (a : CfgResult) : State :=
  { state 0 .fetch with chcfg := false, chan := { Channel.idle with configures := [a] } }

theorem witness_CfgFollowsItsRule : (state 0 .fetch).chcfg = true ∧
    ((configuring .fail).chcfg = false ∧ (configuring .fail).chan.cfgAnswer = .fail) ∧
    ((configuring .ok).chcfg = false ∧ (configuring .ok).chan.cfgAnswer = .ok) := by decide
theorem witness_JmpJumps : (0 : BitVec 16).toNat < (state 5 .fetch).cfg.romLen ∧
    (8 : BitVec 16).toNat < (state 5 .fetch).cfg.romLen ∧ (state 5 .fetch).cfg.romLen ≤ 255 := by decide
theorem witness_HskStarts : (configuring .ok).chcfg = false ∧ (state 1 .fetch).chcfg = true := by decide
theorem witness_ExeStarts : (configuring .ok).chcfg = false ∧ (state 2 .fetch).chcfg = true ∧
    CatalogId.identity ≠ .baudSwitch ∧ (0 : BitVec 16).toNat ≤ (state 2 .fetch).cfg.rxcap ∧
    (64 : BitVec 16).toNat ≤ (state 2 .fetch).cfg.rxcap ∧ (state 2 .fetch).cfg.rxcap ≤ 1024 := by decide

theorem witness_HandshakeSendSteps :
    (let s := shaking .hMagic 1#32 1#32 [.ok] [];
      s.admitted ∧ s.sub = .hMagic ∧ (s.cfg.maxAttempts ≠ 0 ∧ s.attempts = s.cfg.maxAttempts)) ∧
    (let s := shaking .hMagic 0#32 1#32 [.ok] [];
      s.admitted ∧ s.sub = .hMagic ∧ ¬ (s.cfg.maxAttempts ≠ 0 ∧ s.attempts = s.cfg.maxAttempts) ∧
        s.chan.sendAnswer = .ok) ∧
    (let s := shaking .hMagic 0#32 0#32 [.timeout 4] [];
      s.admitted ∧ s.sub = .hMagic ∧ ¬ (s.cfg.maxAttempts ≠ 0 ∧ s.attempts = s.cfg.maxAttempts) ∧
        s.chan.sendAnswer = .timeout 4) ∧
    (let s := shaking .hReq 1#32 1#32 [.ok] [];
      s.admitted ∧ s.sub = .hReq ∧ s.chan.sendAnswer = .ok) ∧
    (let s := shaking .hReq 1#32 0#32 [.timeout 0] [];
      s.admitted ∧ s.sub = .hReq ∧ s.chan.sendAnswer = .timeout 0) := by decide
theorem witness_HandshakeReceiveStep :
    (let s := shaking .hRecv 1#32 0#32 [] [12];
      s.admitted ∧ s.sub = .hRecv ∧ s.received.length = 12) ∧
    (let s := shaking .hRecv 1#32 0#32 [] [13];
      s.admitted ∧ s.sub = .hRecv ∧ s.received.length ≠ 12) := by decide
theorem witness_HandshakeDelayStep :
    let s := shaking .hDelay 1#32 0#32 [] [];
    s.admitted ∧ s.sub = .hDelay := by decide

/-- HSK's fetch with a whole handshake waiting (scenario A). -/
def handshaking : State := { state 1 .fetch with chan := answers [.ok, .ok] [12] }

theorem witness_HskRetiresOnAck : handshaking.admitted ∧ handshaking.sub = .fetch ∧
    handshaking.fetched = some .hsk ∧ handshaking.chcfg = true ∧ handshaking.chan.sends = .ok :: .ok :: [] ∧
    handshaking.chan.receives = count 0 12 :: [] ∧ (count 0 12).length = 12 ∧ 12 ≤ handshaking.cfg.rxcap := by decide
/-- Its four steps, run: the trace has one iteration (L1-A). -/
theorem witness_HskTraceShape : handshaking.admitted ∧ handshaking.sub = .fetch ∧ handshaking.fetched = some .hsk ∧
    ∃ u t, step handshaking = .next u ∧ runsInside (fun x => x.sub.inHsk) 3 u = some t ∧ t.sub = .fetch :=
  ⟨by decide, rfl, by decide, _, _, rfl, rfl, rfl⟩

theorem witness_ExecutorSendStep :
    (let s := executing .xSend 2#32 2#32 [.ok] [];
      s.admitted ∧ s.sub = .xSend ∧ (s.cfg.maxAttempts ≠ 0 ∧ s.attempts = s.cfg.maxAttempts)) ∧
    (let s := executing .xSend 1#32 2#32 [.ok] [];
      s.admitted ∧ s.sub = .xSend ∧ ¬ (s.cfg.maxAttempts ≠ 0 ∧ s.attempts = s.cfg.maxAttempts) ∧
        s.chan.sendAnswer = .ok) ∧
    (let s := executing .xSend 0xFFFFFFFF#32 0#32 [.timeout 3] [];
      s.admitted ∧ s.sub = .xSend ∧ ¬ (s.cfg.maxAttempts ≠ 0 ∧ s.attempts = s.cfg.maxAttempts) ∧
        s.chan.sendAnswer = .timeout 3) := by decide
theorem witness_ExecutorReceiveStep :
    let s := executing .xRecv 1#32 0#32 [] [0];
    s.admitted ∧ s.sub = .xRecv := by decide
theorem witness_ExecutorDelayStep :
    let s := executing .xDelay 1#32 0#32 [] [];
    s.admitted ∧ s.sub = .xDelay := by decide

/-- The hypotheses of MatchStep for a state of `matching`. -/
def Matchable (s : State) (b : List Byte) : Prop :=
  s.admitted ∧ s.sub = .xMatch ∧ b.length = s.rlen.toNat ∧
    ∀ i, i < s.rlen.toNat → s.rxbuf.read i = b[i]?

theorem matchable (n : Nat) (v : Variant) (e : BitVec 11) (h : n < 2048) : Matchable (matching n v e) (count 0 n) :=
  ⟨⟨rfl, by show (demo rom 0#32).defect = none; decide⟩, rfl, by simp [matching, count]; omega,
    fun i _ => by simp [matching]⟩

theorem witness_MatchStep_matched : Matchable (matching 20 .verbose 20) (count 0 20) ∧
    (matching 20 .verbose 20).rlen.toNat = (matching 20 .verbose 20).exp.toNat ∧
    (matching 20 .verbose 20).varsel = .verbose :=
  ⟨matchable _ _ _ (by decide), by decide, rfl⟩
theorem witness_MatchStep_any : Matchable (matching 0 .silent 0) (count 0 0) ∧
    (matching 0 .silent 0).exp.toNat = 0 ∧ (matching 0 .silent 0).varsel = .silent :=
  ⟨matchable _ _ _ (by decide), by decide, rfl⟩
theorem witness_MatchStep_mismatch : Matchable (matching 12 .verbose 20) (count 0 12) ∧
    Matchable (matching 21 .silent 20) (count 0 21) ∧
    (¬ ((matching 12 .verbose 20).exp.toNat = 0 ∨
      (matching 12 .verbose 20).rlen.toNat = (matching 12 .verbose 20).exp.toNat)) ∧
    ¬ ((matching 21 .silent 20).exp.toNat = 0 ∨
      (matching 21 .silent 20).rlen.toNat = (matching 21 .silent 20).exp.toNat) :=
  ⟨matchable _ _ _ (by decide), matchable _ _ _ (by decide), by decide, by decide⟩
/-- A state no run reaches: 34 bytes said to be received, and no cell holding one. -/
theorem witness_MatchStopsOnMissingByte :
    let s := { matching 34 .silent 0 with rxbuf := [] };
    s.admitted ∧ s.sub = .xMatch ∧ s.rxbuf.read 0x20 = none ∧ s.varsel = .silent ∧ s.exp.toNat = 0 ∧
      s.cfg.hOff ≤ 0x20 ∧ 0x20 + 1 < s.rlen.toNat := by decide

/-- EXE's fetch with a send and a 20-byte response waiting (EXE-1). -/
def querying : State := { state 2 .fetch with chan := answers [.ok] [20] }

theorem witness_ExeRetiresOnMatchingResponse : querying.admitted ∧ querying.sub = .fetch ∧
    querying.fetched = some (.exe .identity 20 .verbose) ∧ querying.chcfg = true ∧
    CatalogId.identity ≠ .baudSwitch ∧ querying.chan.sends = .ok :: [] ∧
    querying.chan.receives = count 0 20 :: [] ∧ (count 0 20).length ≤ querying.cfg.rxcap ∧
    (count 0 20).length = (20 : BitVec 16).toNat := by decide
theorem witness_ExeTraceShape : querying.admitted ∧ querying.sub = .fetch ∧ querying.fetched = some (.exe .identity 20 .verbose) ∧
    ∃ u t, step querying = .next u ∧ runsInside (fun x => x.sub.inExe) 3 u = some t ∧ t.sub = .fetch :=
  ⟨by decide, rfl, by decide, _, _, rfl, rfl, rfl⟩
theorem witness_ExeRetiresOnlyOnMatch : (matching 20 .verbose 20).sub.inExe = true ∧
    ∃ t, step (matching 20 .verbose 20) = .next t ∧ t.sub = .fetch := ⟨rfl, _, rfl, rfl⟩
theorem witness_RetriesSendSameFrame : (executing .xSend 1#32 0#32 [.ok] []).sub.inExe = true ∧
    ∃ t, step (executing .xSend 1#32 0#32 [.ok] []) = .next t ∧
      t.trace = (executing .xSend 1#32 0#32 [.ok] []).trace ++ [.send .identity (count 0x40 3) .ok] :=
  ⟨rfl, _, rfl, rfl⟩

theorem witness_FramesAreComposed : (state 0 .fetch).cfg.defect = none := by decide
theorem witness_AddressBytesReadBack : (state 0 .fetch).cfg.defect = none := by decide
/-- Also a witness of StreamsOnlyGrow and RegisterWriters: a step with a next state. -/
theorem witness_WireGetsFramePrefixes : ∃ t, step (executing .xSend 1#32 0#32 [.timeout 2] []) = .next t := ⟨_, rfl⟩
theorem witness_CursorLaw : ∃ t, runs 2 (state 4 .fetch) = some t ∧ advances 2 (state 4 .fetch) = 1 :=
  ⟨_, rfl, by decide⟩
theorem witness_TerminalSubStates : (state 7 .halted).sub.terminal = true ∧ (state 7 .faulted).sub.terminal = true ∧
    (∃ t, step (state 7 .fetch) = .next t ∧ t.sub = .halted) ∧
    ∃ t, step (state 8 .fetch) = .next t ∧ t.sub = .faulted := ⟨rfl, rfl, ⟨_, rfl, rfl⟩, ⟨_, rfl, rfl⟩⟩
theorem witness_FaultsArePrecise : (∃ t, step (configuring .fail) = .next t ∧ t.sub = .faulted ∧ t.fault = .configFatal) ∧
    ∃ t, step (state 0 .fetch) = .next t ∧ t.sub = .faulted ∧ t.fault = .reconfig :=
  ⟨⟨_, rfl, rfl, rfl⟩, ⟨_, rfl, rfl, rfl⟩⟩
/-- One state per fault code. -/
theorem witness_FaultCauses :
    [configuring .fail, state 8 .fetch, state 9 .fetch, { state 2 .fetch with chcfg := false }, state 0 .fetch,
      executing .xSend 2#32 2#32 [] []].map (fun s => after s fun t => (t.sub, t.fault.code)) =
      [some (.faulted, 1), some (.faulted, 2), some (.faulted, 3), some (.faulted, 4), some (.faulted, 5),
        some (.faulted, 6)] := by decide
theorem witness_RefusedConfigurationsDoNotRun :
    ({ demo rom 0#32 with checksumCheck := true } : Config).checksumCheck = true ∧
      ((demo [] 0#32).checksumCheck = false ∧ (demo [] 0#32).defect ≠ none) ∧
      (demo rom 0#32).defect = none ∧
      (State.resetWith (demo [] 0#32)).refused = some (.catalog .romLength) := by decide
/-- The template's four address bytes of the test catalog. -/
theorem witness_ResetState : (demo rom 0#32).defect = none ∧
    ∀ k, k < 4 → ((demo rom 0#32).frame .flashRead)[(demo rom 0#32).addrOff + k]? =
      ([0x38, 0x00, 0x00, 0x00] : List Byte)[k]? := by decide

/-! ### The invariant at states of a run -/

/-- X_RECV of EXE IDENTITY, 20, V, after CFG and the send, a 20-byte response waiting. -/
def receiving : State :=
  { executing .xRecv 1#32 0#32 [] [20] with trace := [.cfg .ok, .send .identity (count 0x40 3) .ok] }

theorem receiving_inv : receiving.Inv where
  admitted := by decide
  rxCanonical := rfl
  rxCells i := by
    have h : receiving.rlen.toNat = 0 := rfl
    rw [h]
    exact ⟨fun h' => absurd h' Bool.false_ne_true, fun h' => absurd h' (Nat.not_lt_zero i)⟩
  rlenLegal := by decide
  expLegal := by decide
  pcLegal := by decide
  faultIff := by decide
  faultIndex := by decide
  notBaud := by decide
  exeRunning _ := ⟨20, by decide, rfl⟩
  hskRunning := by decide
  haltedAt := by decide
  configured := by decide
  chcfgIff := by decide
  hsdoneAfter := by decide
  withinLimit := by decide
  counted := by decide
  sentOk := by decide
  awaiting := by decide
  sentFrames c f r h := by
    have h' : c = .identity ∧ f = count 0x40 3 := by
      simp [receiving] at h; exact ⟨h.1, h.2.1⟩
    obtain ⟨rfl, rfl⟩ := h'; decide
  receivedLen n b h := by simp [receiving] at h

theorem witness_ReceiveFollowsSend : receiving.Inv ∧ ∃ t, step receiving = .next t ∧
    t.trace = receiving.trace ++ [.recv 20 (count 0 20)] := ⟨receiving_inv, _, rfl, rfl⟩
theorem witness_StepKeepsInvariant : receiving.Inv ∧ ∃ t, step receiving = .next t := ⟨receiving_inv, _, rfl⟩
theorem witness_PcNeverWraps : receiving.Inv ∧ ∃ t, step receiving = .next t := ⟨receiving_inv, _, rfl⟩
theorem witness_StepGoesOn : receiving.Inv ∧ receiving.sub.terminal = false ∧
    ¬ (receiving.sub = .fetch ∧ receiving.chcfg = true ∧
      ∃ e v, receiving.fetched = some (.exe .baudSwitch e v)) :=
  ⟨receiving_inv, rfl, fun h => by cases h.1⟩
theorem witness_ResetMeetsInvariant : (demo rom 0#32).defect = none := by decide

/-- The same machine with other bytes in the response that waits. -/
def receivingOther : State := { receiving with chan := { receiving.chan with receives := [count 0x90 20] } }

theorem witness_ContentDecidesNothing : AgreeButContent receiving receivingOther ∧
    ∃ t, step receiving = .next t ∧ receiving ≠ receivingOther :=
  ⟨⟨rfl, rfl, fun r => by cases r <;> rfl, fun _ => rfl, rfl, rfl, rfl, rfl, rfl, rfl, rfl⟩, _, rfl, by decide⟩

end Sys2Proof.Tests
end

section
/-! What one step may write, register by register (10_state.md R21 to R30): each lemma reads `StepCase` off once, with the
value written, so that the writers' table, the streams and the invariant are settled without a second look at the step. -/

namespace Sys2Proof.Machine

variable {s t : State}

/-! ### Configuration and streams -/

theorem StepCase.keeps_config (h : StepCase s t) : keepsConfig s t := by
  cases h <;> exact ⟨rfl, rfl⟩

/-- The events a step of `s` may append to `TRACE` (R22, R111 to R117): a send carries the composed frame of the selected
command or of the handshake, a receive the bytes the channel returned. -/
def State.MayLog (s : State) : TraceEvent → Prop
  | .cfg r => r = s.chan.cfgAnswer
  | .send c f r => (c = s.cmdsel ∨ c = .magic ∨ c = .handshake) ∧ f = s.frame c ∧ r = s.chan.sendAnswer.result
  | .recv n b => n = b.length ∧ b = s.received
  | .delay _ => True

/-- A step appends no event, or one that it may log. -/
theorem StepCase.trace_cases (h : StepCase s t) :
    t.trace = s.trace ∨ ∃ e, t.trace = s.trace ++ [e] ∧ s.MayLog e := by
  cases h with
  | cfgFail | cfgOk => exact .inr ⟨_, rfl, rfl⟩
  | dly | xDelay | hDelay => exact .inr ⟨_, rfl, trivial⟩
  | xSendOk | xSendTimeout => exact .inr ⟨_, rfl, .inl rfl, rfl, rfl⟩
  | hMagicOk | hMagicTimeout => exact .inr ⟨_, rfl, .inr (.inl rfl), rfl, rfl⟩
  | hReqOk | hReqTimeout => exact .inr ⟨_, rfl, .inr (.inr rfl), rfl, rfl⟩
  | xRecv | acknowledged | notReady => exact .inr ⟨_, rfl, rfl, rfl⟩
  | _ => exact .inl rfl

theorem StepCase.console_grows (h : StepCase s t) : ∃ l, t.console = s.console ++ l := by
  cases h with
  | xSendTimeout | hMagicTimeout | hReqTimeout => exact ⟨_, rfl⟩
  | matched l | mismatch l => exact ⟨l, rfl⟩
  | _ => exact ⟨[], (List.append_nil _).symm⟩

/-! ### Registers -/

theorem StepCase.cur_cases (h : StepCase s t) : t.cur = s.cur ∨ (s.sub = .fetch ∧ s.fetched = some .adv) := by
  cases h with
  | adv hs hf => exact .inr ⟨hs, hf⟩
  | _ => exact .inl rfl

/-- `CMDSEL`, `VARSEL` and `EXP` are written by the fetch of an EXE, and `EXP` by the fetch of an HSK too. -/
theorem StepCase.operand_cases (h : StepCase s t) :
    (t.cmdsel = s.cmdsel ∧ t.varsel = s.varsel ∧ t.exp = s.exp) ∨
    (s.sub = .fetch ∧ s.fetched = some .hsk ∧
      t.cmdsel = s.cmdsel ∧ t.varsel = s.varsel ∧ t.exp = BitVec.ofNat 11 hsAckLen) ∨
    ∃ c e v, s.sub = .fetch ∧ s.fetched = some (.exe c e v) ∧ c ≠ .baudSwitch ∧
      t.cmdsel = c ∧ t.varsel = v ∧ t.exp = expOperand e := by
  cases h with
  | hsk hs hf => exact .inr (.inl ⟨hs, hf, rfl, rfl, rfl⟩)
  | exe c e v hs hf _ hb => exact .inr (.inr ⟨c, e, v, hs, hf, hb, rfl, rfl, rfl⟩)
  | _ => exact .inl ⟨rfl, rfl, rfl⟩

/-- `ATTEMPTS` is cleared by the fetch of EXE and HSK, and counted by a send below the limit (R132, R171). -/
theorem StepCase.attempts_cases (h : StepCase s t) :
    t.attempts = s.attempts ∨
    (s.sub = .fetch ∧ (s.fetched = some .hsk ∨ ∃ c e v, s.fetched = some (.exe c e v)) ∧ t.attempts = 0) ∨
    ((s.sub = .xSend ∨ s.sub = .hMagic) ∧ ¬ (s.cfg.maxAttempts ≠ 0 ∧ s.attempts = s.cfg.maxAttempts) ∧
      t.attempts = countAttempt s.attempts) := by
  cases h with
  | hsk hs hf => exact .inr (.inl ⟨hs, .inl hf, rfl⟩)
  | exe c e v hs hf => exact .inr (.inl ⟨hs, .inr ⟨c, e, v, hf⟩, rfl⟩)
  | xSendOk hs hx | xSendTimeout hs hx => exact .inr (.inr ⟨.inl hs, hx, rfl⟩)
  | hMagicOk hs hx | hMagicTimeout hs hx => exact .inr (.inr ⟨.inr hs, hx, rfl⟩)
  | _ => exact .inl rfl

/-- `RXBUF` and `RLEN` are written together, by the two receives (R66). -/
theorem StepCase.rx_cases (h : StepCase s t) :
    (t.rlen = s.rlen ∧ t.rxbuf = s.rxbuf) ∨
    ((s.sub = .xRecv ∨ s.sub = .hRecv) ∧
      t.rlen = BitVec.ofNat 11 s.received.length ∧ t.rxbuf = Memory.ofBytes 0 s.received) := by
  cases h with
  | xRecv hs => exact .inr ⟨.inl hs, rfl, rfl⟩
  | acknowledged hs | notReady hs => exact .inr ⟨.inr hs, rfl, rfl⟩
  | _ => exact .inl ⟨rfl, rfl⟩

/-- `FAULT` and `FAULT_PC` are written by fault entry alone (R203). -/
theorem StepCase.fault_cases (h : StepCase s t) :
    (t.fault = s.fault ∧ t.faultPc = s.faultPc ∧ t.sub ≠ .faulted) ∨
    (t.fault ≠ .none ∧ t.faultPc = s.seqPc ∧ t.seqPc = s.seqPc ∧ t.sub = .faulted) := by
  cases h with
  | overrun | illegal | notConfigured | reconfig | exhausted | cfgFail =>
    exact .inr ⟨nofun, rfl, rfl, rfl⟩
  | _ => exact .inl ⟨rfl, rfl, nofun⟩

theorem StepCase.lastEvt_cases (h : StepCase s t) :
    t.lastEvt = s.lastEvt ∨
      s.sub = .xSend ∨ s.sub = .xMatch ∨ s.sub = .hMagic ∨ s.sub = .hReq ∨ s.sub = .hRecv := by
  cases h with
  | xSendTimeout hs | matched _ hs | mismatch _ hs | hMagicTimeout hs | hReqTimeout hs | acknowledged hs
  | notReady hs => simp [hs]
  | _ => exact .inl rfl

/-- `CHCFG` is set by the CFG whose configure returns OK, and that answer is logged by no other step (R29, R165). -/
theorem StepCase.chcfg_cases (h : StepCase s t) :
    (t.chcfg = s.chcfg ∧ (TraceEvent.cfg .ok ∈ t.trace ↔ TraceEvent.cfg .ok ∈ s.trace)) ∨
    (s.sub = .fetch ∧ s.fetched = some .cfg ∧ t.chcfg = true ∧ TraceEvent.cfg .ok ∈ t.trace) := by
  cases h with
  | cfgOk hs hf _ ha => exact .inr ⟨hs, hf, rfl, by simp [ha]⟩
  | cfgFail _ _ _ ha => exact .inl ⟨rfl, by simp [ha]⟩
  | _ => exact .inl ⟨rfl, by simp⟩

theorem StepCase.hsdone_cases (h : StepCase s t) :
    t.hsdone = s.hsdone ∨ (s.sub = .hRecv ∧ t.hsdone = true) := by
  cases h with
  | acknowledged hs => exact .inr ⟨hs, rfl⟩
  | _ => exact .inl rfl

theorem StepCase.txto_cases (h : StepCase s t) :
    t.txto = s.txto ∨ s.sub = .xSend ∨ s.sub = .hMagic ∨ s.sub = .hReq := by
  cases h with
  | xSendOk hs | xSendTimeout hs | hMagicOk hs | hMagicTimeout hs | hReqOk hs | hReqTimeout hs => simp [hs]
  | _ => exact .inl rfl

theorem StepCase.matched_cases (h : StepCase s t) :
    t.matched = s.matched ∨ s.sub = .xMatch ∨ s.sub = .hRecv := by
  cases h with
  | matched _ hs | mismatch _ hs | acknowledged hs | notReady hs => simp [hs]
  | _ => exact .inl rfl

/-- `SEQ_PC` stays, retires past a descriptor that runs, or becomes a JMP's target (R27, R162, R178). -/
theorem StepCase.seqPc_cases (h : StepCase s t) :
    t.seqPc = s.seqPc ∨
    (t.seqPc = s.seqPc + 1 ∧ ((∃ i, s.fetched = some i) ∨ s.sub.inExe = true ∨ s.sub.inHsk = true)) ∨
    (s.sub = .fetch ∧ ∃ j, s.fetched = some (.jmp j) ∧ t.seqPc = targetOperand j) := by
  cases h with
  | cfgOk _ hf | dly _ _ hf | adv _ hf => exact .inr (.inl ⟨rfl, .inl ⟨_, hf⟩⟩)
  | matched _ hs => exact .inr (.inl ⟨rfl, .inr (.inl (by simp [hs, Sub.inExe]))⟩)
  | acknowledged hs => exact .inr (.inl ⟨rfl, .inr (.inr (by simp [hs, Sub.inHsk]))⟩)
  | jmp j hs hf => exact .inr (.inr ⟨hs, j, hf, rfl⟩)
  | _ => exact .inl rfl

end Sys2Proof.Machine

open Sys2Proof Sys2Proof.Machine

/-- Settles O36: the events and records a step may append, and that it writes no configuration. -/
theorem streamsOnlyGrow : Obligations.StreamsOnlyGrow := by
  intro s t hstep
  have h := step_cases s t hstep
  refine ⟨h.keeps_config, ?_, h.console_grows⟩
  obtain ht | ⟨e, ht, -⟩ := h.trace_cases
  · exact ⟨[], Nat.zero_le 1, by rw [ht, List.append_nil]⟩
  · exact ⟨[e], Nat.le_refl 1, ht⟩

/-- Settles O39: each register's writers, read off the lemma that says what a step writes to it. -/
theorem registerWriters : Obligations.RegisterWriters := by
  intro s t hstep
  have h := step_cases s t hstep
  refine ⟨h.cur_cases.resolve_left, fun hw => ?_, fun hw => ?_, fun hw => ?_, fun hw => ?_, fun hw => ?_,
    h.lastEvt_cases.resolve_left, fun hw => ?_, h.hsdone_cases.resolve_left, h.txto_cases.resolve_left,
    h.matched_cases.resolve_left⟩
  · obtain ⟨hc, hv, -⟩ | ⟨-, -, hc, hv, -⟩ | ⟨c, e, v, hs, hf, -⟩ := h.operand_cases
    · simp [hc, hv] at hw
    · simp [hc, hv] at hw
    · exact ⟨hs, c, e, v, hf⟩
  · obtain ⟨-, -, he⟩ | ⟨hs, hf, -⟩ | ⟨c, e, v, hs, hf, -⟩ := h.operand_cases
    · exact absurd he hw
    · exact ⟨hs, .inl hf⟩
    · exact ⟨hs, .inr ⟨c, e, v, hf⟩⟩
  · obtain ha | ⟨hs, hf, -⟩ | ⟨hs | hs, -⟩ := h.attempts_cases
    · exact absurd ha hw
    · exact .inr (.inr ⟨hs, hf⟩)
    · exact .inl hs
    · exact .inr (.inl hs)
  · obtain ⟨hl, hb⟩ | ⟨hs, -⟩ := h.rx_cases
    · simp [hl, hb] at hw
    · exact hs
  · obtain ⟨hc, hp, -⟩ | ⟨-, -, -, hs⟩ := h.fault_cases
    · simp [hc, hp] at hw
    · exact hs
  · obtain ⟨hc, -⟩ | ⟨hs, hf, -⟩ := h.chcfg_cases
    · exact absurd hc hw
    · exact ⟨hs, hf⟩
end

section
/-! The invariant under a step: who enters the sub-states its clauses speak of, then each group of clauses from what a step
writes (the `_cases` lemmas of `StepCase`). A running operation stays at its descriptor, its operands in the registers. -/

namespace Sys2Proof.Machine

variable {s t : State}

/-! ### Entering a sub-state -/

/-- FAULTED has no step (R163). -/
theorem StepCase.not_faulted (h : StepCase s t) : s.sub ≠ .faulted := by
  cases h with
  | exhausted hs => rcases hs with hs | hs <;> simp [hs]
  | _ => simp [*]

/-- An EXE starts at the fetch of its descriptor on a configured channel, and keeps its place and its operands (R131). -/
theorem StepCase.inExe_cases (h : StepCase s t) (ht : t.sub.inExe = true) :
    (s.sub.inExe = true ∧ t.seqPc = s.seqPc ∧ t.cmdsel = s.cmdsel ∧ t.varsel = s.varsel ∧ t.exp = s.exp) ∨
    (s.chcfg = true ∧ t.seqPc = s.seqPc ∧
      ∃ e, s.fetched = some (.exe t.cmdsel e t.varsel) ∧ t.exp = expOperand e) := by
  cases h with
  | exe c e v hs hf hc => exact .inr ⟨hc, rfl, e, hf, rfl⟩
  | xSendOk hs | xSendTimeout hs | xRecv hs | mismatch _ hs | xDelay hs =>
    exact .inl ⟨by rw [hs]; rfl, rfl, rfl, rfl, rfl⟩
  | _ => nomatch ht

/-- An HSK starts at its fetch on a configured channel with `EXP` at 12, and keeps its place and `EXP` (R170). -/
theorem StepCase.inHsk_cases (h : StepCase s t) (ht : t.sub.inHsk = true) :
    (s.sub.inHsk = true ∧ t.seqPc = s.seqPc ∧ t.exp = s.exp) ∨
    (s.chcfg = true ∧ t.seqPc = s.seqPc ∧ s.fetched = some .hsk ∧ t.exp = BitVec.ofNat 11 hsAckLen) := by
  cases h with
  | hsk hs hf hc => exact .inr ⟨hc, rfl, hf, rfl⟩
  | hMagicOk hs | hMagicTimeout hs | hReqOk hs | hReqTimeout hs | notReady hs | hDelay hs =>
    exact .inl ⟨by rw [hs]; rfl, rfl, rfl⟩
  | _ => nomatch ht

/-- HALTED is entered by STOP, which keeps its place (R180). -/
theorem StepCase.halted_from (h : StepCase s t) (ht : t.sub = .halted) :
    s.fetched = some .stop ∧ t.seqPc = s.seqPc := by
  cases h with
  | stop _ hf => exact ⟨hf, rfl⟩
  | _ => nomatch ht

/-- What follows a send was entered by a counted attempt, or from what follows a send. -/
theorem StepCase.afterSend_cases (h : StepCase s t) (ht : t.sub.afterSend = true) :
    t.attempts = countAttempt s.attempts ∨ (s.sub.afterSend = true ∧ t.attempts = s.attempts) := by
  cases h with
  | xSendOk | xSendTimeout | hMagicOk => exact .inl rfl
  | xRecv hs | mismatch _ hs | hReqOk hs | notReady hs => exact .inr ⟨by rw [hs]; rfl, rfl⟩
  | _ => nomatch ht

/-- What follows a completed send was entered by one, or from what follows one. -/
theorem StepCase.afterOk_cases (h : StepCase s t) (ht : t.sub.afterOk = true) :
    t.txto = false ∨ (s.sub.afterOk = true ∧ t.txto = s.txto) := by
  cases h with
  | xSendOk | hMagicOk | hReqOk => exact .inl rfl
  | xRecv hs | notReady hs => exact .inr ⟨by rw [hs]; rfl, rfl⟩
  | _ => nomatch ht

/-- X_RECV is entered by the completed send of the selected frame (R132). -/
theorem StepCase.getLast?_of_xRecv (h : StepCase s t) (ht : t.sub = .xRecv) :
    t.trace.getLast? = some (.send t.cmdsel (t.frame t.cmdsel) .ok) := by
  cases h with
  | xSendOk _ _ ha => simp [ha, State.frame]
  | _ => nomatch ht

/-- H_RECV is entered by the completed send of the request (R171). -/
theorem StepCase.getLast?_of_hRecv (h : StepCase s t) (ht : t.sub = .hRecv) :
    t.trace.getLast? = some (.send .handshake (t.frame .handshake) .ok) := by
  cases h with
  | hReqOk _ ha => simp [ha, State.frame]
  | _ => nomatch ht

/-! ### Facts of a state that meets the invariant -/

/-- A descriptor that runs, in its fetch or after it, stands inside the ROM (R161). -/
theorem State.Inv.pc_inRom (hi : s.Inv)
    (h : (∃ i, s.fetched = some i) ∨ s.sub.inExe = true ∨ s.sub.inHsk = true) : s.seqPc.toNat < s.cfg.romLen := by
  obtain ⟨i, hf⟩ | hx | hk := h
  · exact fetched_inRom s i hf
  · obtain ⟨e, hf, -⟩ := hi.exeRunning hx
    exact fetched_inRom s _ hf
  · exact fetched_inRom s _ (hi.hskRunning hk).1

theorem State.Inv.rom_le (hi : s.Inv) : s.cfg.romLen ≤ 255 := (admitted_bounds _ hi.admitted.2).2.2.1

/-- A fetched EXE's length fits `EXP` (R91, R92). -/
theorem State.Inv.expOperand_of_fetched (hi : s.Inv) {c e v} (hf : s.fetched = some (.exe c e v)) :
    (expOperand e).toNat = e.toNat ∧ e.toNat ≤ s.cfg.rxcap := by
  obtain ⟨-, -, -, -, hcap⟩ := admitted_bounds _ hi.admitted.2
  have he := fetched_exe s c e v hf
  exact ⟨expOperand_toNat e (by omega), he⟩

/-! ### `SEQ_PC` -/

/-- R27: no write to `SEQ_PC` is cut to its width. -/
theorem StepCase.seqPc_toNat_cases (h : StepCase s t) (hi : s.Inv) :
    t.seqPc.toNat = s.seqPc.toNat ∨
    (t.seqPc.toNat = s.seqPc.toNat + 1 ∧ s.seqPc.toNat < s.cfg.romLen) ∨
    (s.sub = .fetch ∧ ∃ j, s.fetched = some (.jmp j) ∧ t.seqPc.toNat = j.toNat) := by
  have hrom := hi.rom_le
  obtain hp | ⟨hp, hr⟩ | ⟨hs, j, hf, hp⟩ := h.seqPc_cases
  · exact .inl (by rw [hp])
  · have hlt := hi.pc_inRom hr
    refine .inr (.inl ⟨?_, hlt⟩)
    rw [hp]
    bv_omega
  · have hj := fetched_jmp s j hf
    exact .inr (.inr ⟨hs, j, hf, by rw [hp, targetOperand_toNat j (by omega)]⟩)

theorem StepCase.keeps_pcLegal (h : StepCase s t) (hi : s.Inv) : t.seqPc.toNat ≤ t.cfg.romLen := by
  rw [h.keeps_config.1]
  have hpc := hi.pcLegal
  obtain hp | ⟨hp, hlt⟩ | ⟨-, j, hf, hp⟩ := h.seqPc_toNat_cases hi
  · omega
  · omega
  · have hj := fetched_jmp s j hf
    omega

/-! ### The response buffer -/

theorem StepCase.keeps_rx (h : StepCase s t) (hi : s.Inv) :
    t.rxbuf.wf = true ∧ (∀ i, (t.rxbuf.read i).isSome = true ↔ i < t.rlen.toNat) ∧ t.rlen.toNat ≤ t.cfg.rxcap := by
  rw [h.keeps_config.1]
  obtain ⟨hl, hb⟩ | ⟨-, hl, hb⟩ := h.rx_cases
  · rw [hl, hb]
    exact ⟨hi.rxCanonical, hi.rxCells, hi.rlenLegal⟩
  · rw [hl, hb, received_toNat s hi.admitted.2]
    exact ⟨wf_ofBytes _ _, fun i => by simp, received_length s⟩

/-! ### Operands of the running operation -/

theorem StepCase.keeps_expLegal (h : StepCase s t) (hi : s.Inv) : t.exp.toNat ≤ max t.cfg.rxcap hsAckLen := by
  rw [h.keeps_config.1]
  obtain ⟨-, -, he⟩ | ⟨-, -, -, -, he⟩ | ⟨c, e, v, -, hf, -, -, -, he⟩ := h.operand_cases
  · rw [he]; exact hi.expLegal
  · rw [he]; exact le_max_right _ _
  · obtain ⟨hn, hcap⟩ := hi.expOperand_of_fetched hf
    rw [he, hn]; exact le_max_of_le_left hcap

theorem StepCase.keeps_notBaud (h : StepCase s t) (hi : s.Inv) : t.cmdsel ≠ .baudSwitch := by
  obtain ⟨hc, -⟩ | ⟨-, -, hc, -⟩ | ⟨c, e, v, -, -, hb, hc, -⟩ := h.operand_cases
  · rw [hc]; exact hi.notBaud
  · rw [hc]; exact hi.notBaud
  · rw [hc]; exact hb

/-- What FETCH reads stays where `SEQ_PC` stays: no step writes the ROM (R21). -/
theorem StepCase.fetched_eq (h : StepCase s t) (hp : t.seqPc = s.seqPc) : t.fetched = s.fetched :=
  fetched_congr s t h.keeps_config.1 hp

theorem StepCase.keeps_exeRunning (h : StepCase s t) (hi : s.Inv) (ht : t.sub.inExe = true) :
    ∃ e, t.fetched = some (.exe t.cmdsel e t.varsel) ∧ t.exp.toNat = e.toNat := by
  obtain ⟨hs, hp, hc, hv, he⟩ | ⟨-, hp, e, hf, he⟩ := h.inExe_cases ht
  · rw [h.fetched_eq hp, hc, hv, he]
    exact hi.exeRunning hs
  · rw [h.fetched_eq hp, he]
    exact ⟨e, hf, (hi.expOperand_of_fetched hf).1⟩

theorem StepCase.keeps_hskRunning (h : StepCase s t) (hi : s.Inv) (ht : t.sub.inHsk = true) :
    t.fetched = some .hsk ∧ t.exp.toNat = hsAckLen := by
  obtain ⟨hs, hp, he⟩ | ⟨-, hp, hf, he⟩ := h.inHsk_cases ht
  · rw [h.fetched_eq hp, he]
    exact hi.hskRunning hs
  · rw [h.fetched_eq hp, he]
    exact ⟨hf, rfl⟩

theorem StepCase.keeps_haltedAt (h : StepCase s t) (ht : t.sub = .halted) : t.fetched = some .stop := by
  obtain ⟨hf, hp⟩ := h.halted_from ht
  rw [h.fetched_eq hp, hf]

/-! ### Faults -/

theorem StepCase.keeps_fault (h : StepCase s t) (hi : s.Inv) :
    (t.fault ≠ .none ↔ t.sub = .faulted) ∧ (t.sub = .faulted → t.faultPc = t.seqPc) := by
  have hnone : ¬ s.fault ≠ .none := mt hi.faultIff.1 h.not_faulted
  obtain ⟨hf, -, hs⟩ | ⟨hf, hfp, hp, hs⟩ := h.fault_cases
  · exact ⟨by rw [hf]; exact iff_of_false hnone hs, fun h' => absurd h' hs⟩
  · exact ⟨iff_of_true hf hs, fun _ => hfp.trans hp.symm⟩

/-! ### The channel's configuration -/

/-- No step clears `CHCFG` (R29). -/
theorem StepCase.chcfg_mono (h : StepCase s t) (hs : s.chcfg = true) : t.chcfg = true := by
  obtain ⟨hc, -⟩ | ⟨-, -, hc, -⟩ := h.chcfg_cases
  · rw [hc, hs]
  · exact hc

theorem StepCase.keeps_chcfgIff (h : StepCase s t) (hi : s.Inv) : t.chcfg = true ↔ TraceEvent.cfg .ok ∈ t.trace := by
  obtain ⟨hc, hl⟩ | ⟨-, -, hc, hl⟩ := h.chcfg_cases
  · rw [hc, hl]; exact hi.chcfgIff
  · exact iff_of_true hc hl

theorem StepCase.keeps_configured (h : StepCase s t) (hi : s.Inv) (ht : (t.sub.inExe || t.sub.inHsk) = true) :
    t.chcfg = true := by
  apply h.chcfg_mono
  obtain hx | hk := Bool.or_eq_true_iff.1 ht
  · obtain ⟨hs, -⟩ | ⟨hc, -⟩ := h.inExe_cases hx
    · exact hi.configured (by simp [hs])
    · exact hc
  · obtain ⟨hs, -⟩ | ⟨hc, -⟩ := h.inHsk_cases hk
    · exact hi.configured (by simp [hs])
    · exact hc

theorem StepCase.keeps_hsdoneAfter (h : StepCase s t) (hi : s.Inv) (ht : t.hsdone = true) : t.chcfg = true := by
  apply h.chcfg_mono
  obtain hd | ⟨hs, -⟩ := h.hsdone_cases
  · exact hi.hsdoneAfter (hd ▸ ht)
  · exact hi.configured (by rw [hs]; rfl)

/-! ### Attempts and sends -/

theorem StepCase.keeps_withinLimit (h : StepCase s t) (hi : s.Inv) (ht : t.cfg.maxAttempts ≠ 0) :
    t.attempts.toNat ≤ t.cfg.maxAttempts.toNat := by
  rw [h.keeps_config.1] at ht ⊢
  have hle := hi.withinLimit ht
  obtain ha | ⟨-, -, ha⟩ | ⟨-, hx, ha⟩ := h.attempts_cases
  · rw [ha]; exact hle
  · rw [ha]; exact Nat.zero_le _
  · have hne : s.attempts.toNat ≠ s.cfg.maxAttempts.toNat := fun e => hx ⟨ht, BitVec.eq_of_toNat_eq e⟩
    rw [ha, countAttempt_toNat]
    omega

theorem countAttempt_ne_zero (a : Word) : countAttempt a ≠ 0 := by
  intro h
  have hn := countAttempt_toNat a
  bv_omega

theorem StepCase.keeps_counted (h : StepCase s t) (hi : s.Inv) (ht : t.sub.afterSend = true) : t.attempts ≠ 0 := by
  obtain ha | ⟨hs, ha⟩ := h.afterSend_cases ht
  · rw [ha]; exact countAttempt_ne_zero _
  · rw [ha]; exact hi.counted hs

theorem StepCase.keeps_sentOk (h : StepCase s t) (hi : s.Inv) (ht : t.sub.afterOk = true) : t.txto = false := by
  obtain hx | ⟨hs, hx⟩ := h.afterOk_cases ht
  · exact hx
  · rw [hx]; exact hi.sentOk hs

/-! ### The trace -/

/-- An event of the next trace is one of the trace, or one that the step may log. -/
theorem StepCase.mem_trace (h : StepCase s t) {e : TraceEvent} (he : e ∈ t.trace) : e ∈ s.trace ∨ s.MayLog e := by
  obtain ht | ⟨e', ht, hl⟩ := h.trace_cases
  · exact .inl (ht ▸ he)
  · rw [ht] at he
    obtain he | he := List.mem_append.1 he
    · exact .inl he
    · exact .inr (List.mem_singleton.1 he ▸ hl)

theorem StepCase.keeps_sentFrames (h : StepCase s t) (hi : s.Inv) (c : CatalogId) (f : List Byte) (r : SendResult)
    (he : TraceEvent.send c f r ∈ t.trace) : f.length = t.cfg.declLen c ∧ c ≠ .baudSwitch := by
  rw [h.keeps_config.1]
  obtain he | ⟨hc, rfl, -⟩ := h.mem_trace he
  · exact hi.sentFrames c f r he
  · refine ⟨frame_length s c hi.admitted.2, ?_⟩
    obtain rfl | rfl | rfl := hc
    · exact hi.notBaud
    · nofun
    · nofun

theorem StepCase.keeps_receivedLen (h : StepCase s t) (hi : s.Inv) (n : Nat) (b : List Byte)
    (he : TraceEvent.recv n b ∈ t.trace) : n = b.length ∧ n ≤ t.cfg.rxcap := by
  rw [h.keeps_config.1]
  obtain he | ⟨rfl, rfl⟩ := h.mem_trace he
  · exact hi.receivedLen n b he
  · exact ⟨rfl, received_length s⟩

end Sys2Proof.Machine

open Sys2Proof Sys2Proof.Machine

/-- Settles O40: the cases of a write to `SEQ_PC`, without the bound each comes with. -/
theorem pcNeverWraps : Obligations.PcNeverWraps := by
  intro s t hi hstep
  obtain hp | ⟨hp, -⟩ | hj := (step_cases s t hstep).seqPc_toNat_cases hi
  · exact .inl hp
  · exact .inr (.inl hp)
  · exact .inr (.inr hj)

/-- Settles O50: each clause of the invariant from the lemma that keeps it. -/
theorem stepKeepsInvariant : Obligations.StepKeepsInvariant := by
  intro s t hi hstep
  have h := step_cases s t hstep
  obtain ⟨hcfg, href⟩ := h.keeps_config
  obtain ⟨hcanon, hcells, hrlen⟩ := h.keeps_rx hi
  obtain ⟨hiff, hindex⟩ := h.keeps_fault hi
  exact
    { admitted := ⟨href.trans hi.admitted.1, hcfg ▸ hi.admitted.2⟩
      rxCanonical := hcanon
      rxCells := hcells
      rlenLegal := hrlen
      expLegal := h.keeps_expLegal hi
      pcLegal := h.keeps_pcLegal hi
      faultIff := hiff
      faultIndex := hindex
      notBaud := h.keeps_notBaud hi
      exeRunning := h.keeps_exeRunning hi
      hskRunning := h.keeps_hskRunning hi
      haltedAt := h.keeps_haltedAt
      configured := h.keeps_configured hi
      chcfgIff := h.keeps_chcfgIff hi
      hsdoneAfter := h.keeps_hsdoneAfter hi
      withinLimit := h.keeps_withinLimit hi
      counted := h.keeps_counted hi
      sentOk := h.keeps_sentOk hi
      awaiting := ⟨h.getLast?_of_xRecv, h.getLast?_of_hRecv⟩
      sentFrames := h.keeps_sentFrames hi
      receivedLen := h.keeps_receivedLen hi }
end

section
/-! The register view as numbers (10_state.md R23, R33) and the state after reset (R40, 70_reset_and_hazards.md R230). -/

namespace Sys2Proof

/-! ### The template's address field at reset -/

/-- A slice of four lists the four bytes that stand there. -/
theorem slice_four (l : List Byte) (a : Nat) (b0 b1 b2 b3 : Byte)
    (h : ∀ k, k < 4 → l[a + k]? = [b0, b1, b2, b3][k]?) : slice l a (a + 4) = [b0, b1, b2, b3] := by
  apply List.ext_getElem?
  intro k
  rw [slice, Nat.add_sub_cancel_left, List.getElem?_take, List.getElem?_drop]
  split
  · exact h k ‹_›
  · exact (List.getElem?_eq_none (by simpa using ‹¬ k < 4›)).symm

/-- Four bytes read little-endian, as a number: they fit the 32 bits (R11). -/
theorem le32Inv_toNat (b0 b1 b2 b3 : Byte) :
    (le32Inv [b0, b1, b2, b3]).toNat = b0.toNat + 2 ^ 8 * b1.toNat + 2 ^ 16 * b2.toNat + 2 ^ 24 * b3.toNat := by
  simp only [le32Inv, List.getD_cons_zero, List.getD_cons_succ, BitVec.toNat_ofNat]
  omega

/-- Four bytes survive reading and writing (R62). -/
theorem le32_le32Inv_of_length (l : List Byte) (h : l.length = 4) : le32 (le32Inv l) = l := by
  match l, h with
  | [a, b, c, d], _ => exact le32_le32Inv a b c d

/-- A list is its first `a` bytes, the `n` after them, and the rest. -/
theorem slice_append_slice_append_slice (l : List Byte) (a n : Nat) :
    slice l 0 a ++ slice l a (a + n) ++ slice l (a + n) l.length = l := by
  simp only [slice, List.drop_zero, Nat.sub_zero, Nat.add_sub_cancel_left]
  have hrest : (l.drop (a + n)).take (l.length - (a + n)) = l.drop (a + n) := List.take_of_length_le (by simp)
  rw [hrest, List.append_assoc, ← List.drop_drop, List.take_append_drop, List.take_append_drop]

/-- With the cursor at its reset value the composed FLASH_READ frame is the template (R40, R64). -/
theorem composed_cursorInit (g : Config) (h : g.defect = none) :
    g.composed g.cursorInit .flashRead = g.frame .flashRead := by
  obtain ⟨hlen, haddr, -⟩ := admitted_bounds g h
  have hfour : (slice (g.frame .flashRead) g.addrOff (g.addrOff + 4)).length = 4 := by
    simp only [slice, List.length_take, List.length_drop, hlen]
    omega
  rw [Config.composed, if_pos rfl, Config.cursorInit, le32_le32Inv_of_length _ hfour, ← hlen,
    slice_append_slice_append_slice]

namespace Machine

/-! ### `STATUS` -/

/-- `STATUS` as a number: each field at its place, nothing at bits 31:24, 11 and 7 (R33). -/
theorem status_toNat (s : State) :
    s.status.toNat = s.sub.code.toNat + 2 ^ 4 * s.lastEvt.code.toNat + 2 ^ 8 * s.fault.code.toNat
      + 2 ^ 12 * s.chcfg.toNat + 2 ^ 13 * s.hsdone.toNat + 2 ^ 14 * s.txto.toNat + 2 ^ 15 * s.matched.toNat
      + 2 ^ 16 * s.seqPc.toNat := by
  simp only [State.status, append_toNat, BitVec.toNat_ofBool, BitVec.toNat_ofNat]
  omega

/-- `STATUS` reads 0 after reset (R33, R40). -/
theorem status_resetWith (g : Config) : (State.resetWith g).status = 0 := by
  apply BitVec.eq_of_toNat_eq
  rw [status_toNat]
  rfl

/-! ### Zero-extended fields -/

/-- A field of at most 32 bits reads as its number, which is below its width (R23). -/
theorem setWidth_reads {n : Nat} (x : BitVec n) (h : n ≤ 32) :
    (x.setWidth 32).toNat = x.toNat ∧ (x.setWidth 32).toNat < 2 ^ n := by
  rw [BitVec.toNat_setWidth_of_le h]
  exact ⟨rfl, x.isLt⟩

/-- A flag reads as 0 or 1 (R23). -/
theorem setWidth_ofBool_toNat (b : Bool) : ((BitVec.ofBool b).setWidth 32).toNat = b.toNat := by
  rw [BitVec.toNat_setWidth_of_le (by decide), BitVec.toNat_ofBool]

/-! ### The invariant at reset -/

/-- Reset under an admitted configuration meets the invariant: nothing runs, nothing has been sent or received. -/
theorem resetWith_inv (g : Config) (h : g.defect = none) : (State.resetWith g).Inv where
  admitted := ⟨h, h⟩
  rxCanonical := rfl
  rxCells i := by simp
  rlenLegal := Nat.zero_le _
  expLegal := Nat.zero_le _
  pcLegal := Nat.zero_le _
  faultIff := by simp
  faultIndex := nofun
  notBaud := nofun
  exeRunning := nofun
  hskRunning := nofun
  haltedAt := nofun
  configured := nofun
  chcfgIff := by simp
  hsdoneAfter := nofun
  withinLimit _ := Nat.zero_le _
  counted := nofun
  sentOk := nofun
  awaiting := ⟨nofun, nofun⟩
  sentFrames := nofun
  receivedLen := nofun

end Machine

end Sys2Proof

open Sys2Proof Sys2Proof.Machine

/-- Settles O37: the fields are the digits of `status_toNat`, each within its width; the code tables compute. -/
theorem statusLayout : Obligations.StatusLayout := by
  refine ⟨fun s => ?_, status_resetWith, rfl, rfl, rfl⟩
  have hc := Bool.toNat_lt s.chcfg
  have hh := Bool.toNat_lt s.hsdone
  have ht := Bool.toNat_lt s.txto
  have hm := Bool.toNat_lt s.matched
  simp only [status_toNat]
  refine ⟨?_, ?_, ?_, ?_, ?_, ?_, ?_, ?_, ?_, ?_, ?_⟩ <;> omega

/-- Settles O38: a register narrower than 32 bits reads as its field zero-extended. -/
theorem registersReadTheirFields : Obligations.RegistersReadTheirFields := by
  refine ⟨fun s => ⟨⟨rfl, rfl, rfl⟩, ?seqPc, ?sub, ?cmdsel, ?varsel, ?exp, ?rlen, ?fault, ?faultPc, ?lastEvt,
    setWidth_ofBool_toNat s.chcfg, setWidth_ofBool_toNat s.hsdone, setWidth_ofBool_toNat s.txto,
    setWidth_ofBool_toNat s.matched⟩, rfl⟩
  case seqPc => exact ⟨(setWidth_reads s.seqPc (by decide)).1, s.seqPc.isLt⟩
  case sub => exact setWidth_reads s.sub.code (by decide)
  case cmdsel => exact setWidth_reads s.cmdsel.code (by decide)
  case varsel => exact ⟨fun h => by rw [State.reg, h]; rfl, fun h => by rw [State.reg, h]; rfl⟩
  case exp => exact ⟨(setWidth_reads s.exp (by decide)).1, s.exp.isLt⟩
  case rlen => exact ⟨(setWidth_reads s.rlen (by decide)).1, s.rlen.isLt⟩
  case fault => exact setWidth_reads s.fault.code (by decide)
  case faultPc => exact ⟨(setWidth_reads s.faultPc (by decide)).1, s.faultPc.isLt⟩
  case lastEvt => exact setWidth_reads s.lastEvt.code (by decide)

/-- Settles O42: the registers compute; the cursor is the template's address field, so composing puts it back. -/
theorem resetState : Obligations.ResetState := by
  intro g
  refine ⟨rfl, rfl, rfl, rfl, rfl, rfl, rfl, rfl, rfl, rfl, rfl, rfl, rfl, rfl, rfl, fun _ => rfl, rfl, rfl,
    status_resetWith g, fun b0 b1 b2 b3 hb => ?_, composed_cursorInit g⟩
  rw [resetWith_cur, Config.cursorInit, slice_four _ _ b0 b1 b2 b3 hb, le32Inv_toNat]

/-- Settles O49: reset meets the invariant, and the reference configuration is admitted. -/
theorem resetMeetsInvariant : Obligations.ResetMeetsInvariant :=
  ⟨resetWith_inv, reset_eq, reset_eq ▸ resetWith_inv _ reference_admitted⟩
end

section
/-! The buffer and frame accesses as an index sees them: what each place of a composed frame holds (20_memory.md R62, R64),
and which index a read of `RXBUF` stops on (R67, 10_state.md R24; 41_executor.md R137, R138). -/

namespace Sys2Proof

/-! ### Frames -/

theorem slice_zero_length (l : List Byte) : slice l 0 l.length = l := by simp [slice]

/-- A list with its bytes from `a` on replaced by `m`: `m` inside the field, the list itself at every other place. -/
theorem getElem?_splice (l m : List Byte) (a i : Nat) (h : a + m.length ≤ l.length) :
    (slice l 0 a ++ m ++ slice l (a + m.length) l.length)[i]? =
      if a ≤ i ∧ i < a + m.length then m[i - a]? else l[i]? := by
  have hhead : (slice l 0 a).length = a := by simp [slice]; omega
  rw [List.append_assoc, List.getElem?_append, hhead]
  by_cases hbefore : i < a
  · rw [if_pos hbefore, if_neg (by omega)]
    simp [slice, hbefore]
  rw [if_neg hbefore, List.getElem?_append]
  by_cases hin : i < a + m.length
  · rw [if_pos (by omega), if_pos (by omega)]
  · rw [if_neg (by omega), if_neg (by omega), slice, List.take_of_length_le (by simp), List.getElem?_drop]
    congr 1
    omega

/-- Byte `k` of `LE32(v)` is `v[8k+7:8k]` (R62). -/
theorem le32_getElem? (v : Word) (k : Nat) (h : k < 4) : (le32 v)[k]? = some (v.extractLsb' (8 * k) 8) := by
  match k, h with
  | 0, _ | 1, _ | 2, _ | 3, _ => rfl

/-- Every frame but FLASH_READ is the catalog's, whatever the cursor holds (R64). -/
theorem composed_of_ne (g : Config) (cur : Word) (c : CatalogId) (h : g.defect = none) (hc : c ≠ .flashRead) :
    g.composed cur c = g.frame c := by
  rw [Config.composed, if_neg hc, ← (admitted_bounds g h).1 c, slice_zero_length]

/-- FLASH_READ byte by byte: the cursor inside the address field, the catalog's byte at every other place (R64). -/
theorem composed_flashRead_getElem? (g : Config) (cur : Word) (i : Nat) (h : g.defect = none) :
    (g.composed cur .flashRead)[i]? =
      if g.addrOff ≤ i ∧ i < g.addrOff + 4 then (le32 cur)[i - g.addrOff]? else (g.frame .flashRead)[i]? := by
  obtain ⟨hlen, haddr, -⟩ := admitted_bounds g h
  rw [← hlen] at haddr
  rw [Config.composed, if_pos rfl, ← hlen]
  exact getElem?_splice _ (le32 cur) _ i haddr

namespace Machine

/-- Byte `k` of the address field is byte `k` of `CUR` (R62, R64). -/
theorem frame_address_getElem? (s : State) (k : Nat) (h : s.cfg.defect = none) (hk : k < 4) :
    (s.frame .flashRead)[s.cfg.addrOff + k]? = (le32 s.cur)[k]? := by
  rw [State.frame, composed_flashRead_getElem? _ _ _ h, if_pos (by omega), Nat.add_sub_cancel_left]

/-- Outside FLASH_READ's address field a composed frame is the catalog's (R64). -/
theorem frame_getElem?_outside (s : State) (c : CatalogId) (i : Nat) (h : s.cfg.defect = none)
    (hi : ¬ (c = .flashRead ∧ s.cfg.addrOff ≤ i ∧ i < s.cfg.addrOff + 4)) :
    (s.frame c)[i]? = (s.cfg.frame c)[i]? := by
  by_cases hc : c = .flashRead
  · subst hc
    rw [State.frame, composed_flashRead_getElem? _ _ _ h, if_neg (by simpa using hi)]
  · rw [State.frame, composed_of_ne _ _ _ h hc]

/-! ### Reads of `RXBUF` -/

/-- Below `RLEN` a read is of the cell itself (R67). -/
theorem rxRead_of_lt (s : State) (i : Nat) (h : i < s.rlen.toNat) : s.rxRead i = s.rxbuf.read i := if_pos h

/-- A range below `RLEN` stops exactly where one of its cells holds no value (R24, R67). -/
theorem rxReadRange_eq_none_iff (s : State) (lo n : Nat) (h : ∀ i, lo ≤ i → i < lo + n → i < s.rlen.toNat) :
    s.rxReadRange lo n = none ↔ ∃ i, s.rxbuf.read i = none ∧ lo ≤ i ∧ i < lo + n := by
  have hcell : ∀ i, lo ≤ i → i < lo + n → (s.rxRead i = none ↔ s.rxbuf.read i = none) :=
    fun i hlo hhi => by rw [rxRead_of_lt s i (h i hlo hhi)]
  rw [← Option.not_isSome_iff_eq_none, rxReadRange_isSome]
  constructor
  · intro hnot
    push Not at hnot
    obtain ⟨i, hlo, hhi, hi⟩ := hnot
    exact ⟨i, (hcell i hlo hhi).1 (by simpa using hi), hlo, hhi⟩
  · rintro ⟨i, hi, hlo, hhi⟩ hall
    simpa [(hcell i hlo hhi).2 hi] using hall i hlo hhi

/-- The indices the silent print reads (R138). -/
theorem lt_add_silentCount_iff (hOff rlen i : Nat) (h : hOff ≤ i) :
    i < hOff + silentCount hOff rlen ↔ i + 1 < rlen := by
  unfold silentCount
  omega

/-! ### Where the prints stop -/

/-- The verbose print stops exactly on a cell below `RLEN` with no value (R137). -/
theorem printVerbose_eq_none_iff (s : State) (ok : Bool) :
    printVerbose s ok = none ↔ ∃ i, s.rxbuf.read i = none ∧ i < s.rlen.toNat := by
  have hread : printVerbose s ok = none ↔ s.rxReadRange 0 s.rlen.toNat = none := by
    unfold printVerbose
    cases s.rxReadRange 0 s.rlen.toNat <;> simp
  rw [hread, rxReadRange_eq_none_iff s _ _ fun i _ hi => by omega]
  simp

/-- The silent print stops exactly on a cell of `H_OFF .. RLEN − 1` with no value (R138). -/
theorem printSilent_eq_none_iff (s : State) :
    printSilent s = none ↔ ∃ i, s.rxbuf.read i = none ∧ s.cfg.hOff ≤ i ∧ i + 1 < s.rlen.toNat := by
  have hread : printSilent s = none ↔ s.rxReadRange s.cfg.hOff (silentCount s.cfg.hOff s.rlen.toNat) = none := by
    unfold printSilent
    cases s.rxReadRange s.cfg.hOff (silentCount s.cfg.hOff s.rlen.toNat) <;> simp
  have hbelow : ∀ i, s.cfg.hOff ≤ i → i < s.cfg.hOff + silentCount s.cfg.hOff s.rlen.toNat → i < s.rlen.toNat :=
    fun i hlo hhi => by have := (lt_add_silentCount_iff _ _ i hlo).1 hhi; omega
  rw [hread, rxReadRange_eq_none_iff s _ _ hbelow]
  exact exists_congr fun i => and_congr_right fun _ => and_congr_right fun hlo => lt_add_silentCount_iff _ _ i hlo

/-- What X_MATCH prints stops exactly where the variant's print does; silent prints on success only (R134). -/
theorem printMatch_eq_none_iff (s : State) (ok : Bool) :
    printMatch s ok = none ↔
      (s.varsel = .verbose ∧ printVerbose s ok = none) ∨ (s.varsel = .silent ∧ ok = true ∧ printSilent s = none) := by
  unfold printMatch
  split <;> simp [*]

/-- X_MATCH has no other stop than its prints (R134). -/
theorem xMatch_eq_fault_iff (s : State) :
    xMatch s = .fault .rxRead ↔ printMatch s (lengthMatches s.rlen s.exp) = none := by
  unfold xMatch
  cases printMatch s (lengthMatches s.rlen s.exp) <;> simp

end Machine

end Sys2Proof

open Sys2Proof Sys2Proof.Machine

/-- Settles O25: the step is X_MATCH, which stops where its prints do; each print stops on an index of its own range. -/
theorem matchStopsOnMissingByte : Obligations.MatchStopsOnMissingByte := by
  intro s href hsub
  have hstep : step s = xMatch s := by rw [step_unmarked s href, subStep, hsub]
  rw [hstep, xMatch_eq_fault_iff, printMatch_eq_none_iff, lengthMatches_iff, printVerbose_eq_none_iff,
    printSilent_eq_none_iff]
  constructor
  · rintro (⟨hv, i, hi, hlt⟩ | ⟨hv, hok, i, hi, hlo, hhi⟩)
    · exact ⟨i, hi, .inl ⟨hv, hlt⟩⟩
    · exact ⟨i, hi, .inr ⟨hv, hok, hlo, hhi⟩⟩
  · rintro ⟨i, hi, ⟨hv, hlt⟩ | ⟨hv, hok, hlo, hhi⟩⟩
    · exact .inl ⟨hv, i, hi, hlt⟩
    · exact .inr ⟨hv, hok, i, hi, hlo, hhi⟩

/-- Settles O32: a composed frame read index by index, outside the address field and inside it. -/
theorem framesAreComposed : Obligations.FramesAreComposed := fun s c h =>
  ⟨frame_length s c h, fun i hi => frame_getElem?_outside s c i h hi,
    fun k hk => (frame_address_getElem? s k h hk).trans (le32_getElem? s.cur k hk)⟩

/-- Settles O33: the address field is `LE32(CUR)`, which reads back as `CUR`. -/
theorem addressBytesReadBack : Obligations.AddressBytesReadBack := by
  intro s h
  have hfield : slice (s.frame .flashRead) s.cfg.addrOff (s.cfg.addrOff + 4) = le32 s.cur :=
    slice_four _ _ _ _ _ _ fun k hk => frame_address_getElem? s k h hk
  rw [hfield, le32Inv_le32]
end

section
/-! The decoder and the encoder as inverses (30_encoding.md R89 to R93): a word as its five fields, what each part of the
decoder accepts, and from both that a word decodes to a descriptor exactly where it is that descriptor's word. -/

namespace Sys2Proof

/-! ### A word and its fields -/

theorem pack_eq_iff (op cmd : BitVec 4) (var : BitVec 2) (arg : BitVec 16) (w : Word) :
    pack op cmd var arg = w ↔
      opField w = op ∧ cmdField w = cmd ∧ varField w = var ∧ rsvField w = 0#6 ∧ argField w = arg := by
  constructor
  · rintro rfl; simp
  · rintro ⟨rfl, rfl, rfl, hrsv, rfl⟩; exact pack_fields w hrsv

theorem opField_toNat (w : Word) : (opField w).toNat = w.toNat / 2 ^ 28 := by
  have hw := w.isLt
  rw [opField, field_toNat]; omega

theorem cmdField_toNat (w : Word) : (cmdField w).toNat = w.toNat / 2 ^ 24 % 2 ^ 4 := field_toNat w 24 4

theorem varField_toNat (w : Word) : (varField w).toNat = w.toNat / 2 ^ 22 % 2 ^ 2 := field_toNat w 22 2

theorem rsvField_toNat (w : Word) : (rsvField w).toNat = w.toNat / 2 ^ 16 % 2 ^ 6 := field_toNat w 16 6

theorem argField_toNat (w : Word) : (argField w).toNat = w.toNat % 2 ^ 16 := by
  rw [argField, field_toNat]; omega

/-- The test of DLY and JMP for zeros between OP and ARG is a test of three fields. -/
theorem aboveArg_eq_zero_iff (w : Word) :
    w.extractLsb' 16 12 = 0#12 ↔ cmdField w = 0#4 ∧ varField w = 0#2 ∧ rsvField w = 0#6 := by
  simp only [← BitVec.toNat_inj, cmdField_toNat, varField_toNat, rsvField_toNat, field_toNat, BitVec.toNat_zero]
  omega

/-- The test of a descriptor without operands is a test of every field below OP. -/
theorem belowOp_eq_zero_iff (w : Word) :
    w.extractLsb' 0 28 = 0#28 ↔ cmdField w = 0#4 ∧ varField w = 0#2 ∧ rsvField w = 0#6 ∧ argField w = 0#16 := by
  simp only [← BitVec.toNat_inj, cmdField_toNat, varField_toNat, rsvField_toNat, argField_toNat, field_toNat,
    BitVec.toNat_zero]
  omega

/-- `pack_eq_iff` on the fields as numbers. -/
theorem pack_eq_of_toNat {op cmd : BitVec 4} {var : BitVec 2} {arg : BitVec 16} {w : Word}
    (hop : (opField w).toNat = op.toNat) (hcmd : (cmdField w).toNat = cmd.toNat)
    (hvar : (varField w).toNat = var.toNat) (hrsv : (rsvField w).toNat = 0)
    (harg : (argField w).toNat = arg.toNat) : pack op cmd var arg = w :=
  (pack_eq_iff ..).2 ⟨BitVec.eq_of_toNat_eq hop, BitVec.eq_of_toNat_eq hcmd, BitVec.eq_of_toNat_eq hvar,
    BitVec.eq_of_toNat_eq hrsv, BitVec.eq_of_toNat_eq harg⟩

/-! ### Operand codes -/

theorem catalogId_ofCode_eq_some_iff (b : BitVec 4) (c : CatalogId) : CatalogId.ofCode b = some c ↔ b = c.code :=
  ⟨fun h => (catalogId_code_of_ofCode b c h).symm, fun h => h ▸ catalogId_ofCode_code c⟩

theorem variant_ofCode_eq_some_iff (b : BitVec 2) (v : Variant) : Variant.ofCode b = some v ↔ b = v.code :=
  ⟨fun h => (variant_code_of_ofCode b v h).symm, fun h => h ▸ variant_ofCode_code v⟩

theorem delayClass_ofCode_eq_some_iff (b : BitVec 16) (k : DelayClass) : DelayClass.ofCode b = some k ↔ b = k.code :=
  ⟨fun h => (delayClass_code_of_ofCode b k h).symm, fun h => h ▸ delayClass_ofCode_code k⟩

/-- The catalog ids are the codes up to 8 (R86). -/
theorem exists_catalogId_code_iff (b : BitVec 4) : (∃ c : CatalogId, b = c.code) ↔ b.toNat ≤ 8 := by
  simp only [← catalogId_ofCode_eq_some_iff, ← Option.isSome_iff_exists]
  revert b; decide

/-- The variants are the codes 0 and 1 (R89). -/
theorem exists_variant_code_iff (b : BitVec 2) : (∃ v : Variant, b = v.code) ↔ b.toNat ≤ 1 := by
  simp only [← variant_ofCode_eq_some_iff, ← Option.isSome_iff_exists]
  revert b; decide

/-- The delay classes are the codes up to 3 (R91). -/
theorem exists_delayClass_code_iff (b : BitVec 16) : (∃ k : DelayClass, b = k.code) ↔ b.toNat ≤ 3 := by
  simp only [← delayClass_ofCode_eq_some_iff, ← Option.isSome_iff_exists, DelayClass.ofCode]
  split
  case h_5 => grind
  all_goals simp [*]

theorem CatalogId.code_toNat_le (c : CatalogId) : c.code.toNat ≤ 8 := (exists_catalogId_code_iff _).1 ⟨c, rfl⟩

theorem Variant.code_toNat_le (v : Variant) : v.code.toNat ≤ 1 := (exists_variant_code_iff _).1 ⟨v, rfl⟩

theorem DelayClass.code_toNat_le (k : DelayClass) : k.code.toNat ≤ 3 := (exists_delayClass_code_iff _).1 ⟨k, rfl⟩

/-! ### What each part of the decoder accepts (R92, R93) -/

theorem decodePlain_eq_instr_iff (w : Word) (i j : Instr) :
    decodePlain w i = .instr j ↔
      i = j ∧ cmdField w = 0#4 ∧ varField w = 0#2 ∧ rsvField w = 0#6 ∧ argField w = 0#16 := by
  rw [← belowOp_eq_zero_iff, decodePlain]
  split <;> simp [*]

theorem decodeDly_eq_instr_iff (w : Word) (i : Instr) :
    decodeDly w = .instr i ↔
      ∃ k, .dly k = i ∧ cmdField w = 0#4 ∧ varField w = 0#2 ∧ rsvField w = 0#6 ∧ argField w = k.code := by
  simp only [← delayClass_ofCode_eq_some_iff, decodeDly, aboveArg_eq_zero_iff]
  cases DelayClass.ofCode (argField w) <;> split_ifs <;> simp_all

theorem decodeExe_eq_instr_iff (rxcap : Nat) (w : Word) (i : Instr) :
    decodeExe rxcap w = .instr i ↔
      ∃ c v, .exe c (argField w) v = i ∧ cmdField w = c.code ∧ varField w = v.code ∧ rsvField w = 0#6 ∧
        (argField w).toNat ≤ rxcap := by
  simp only [← catalogId_ofCode_eq_some_iff, ← variant_ofCode_eq_some_iff, decodeExe]
  cases CatalogId.ofCode (cmdField w) with
  | none => simp
  | some c =>
    cases Variant.ofCode (varField w) with
    | none => simp
    | some v =>
      dsimp only
      split_ifs <;> simp [*]

theorem decodeJmp_eq_instr_iff (romLen : Nat) (w : Word) (i : Instr) :
    decodeJmp romLen w = .instr i ↔
      .jmp (argField w) = i ∧ cmdField w = 0#4 ∧ varField w = 0#2 ∧ rsvField w = 0#6 ∧ (argField w).toNat < romLen := by
  simp only [decodeJmp, aboveArg_eq_zero_iff]
  split_ifs <;> simp_all

/-! ### The round trip -/

/-- A legal descriptor's word decodes to it: OP selects the descriptor's own part of the decoder, which accepts the word. -/
theorem decode_encode (rxcap romLen : Nat) (i : Instr) (h : i.wf rxcap romLen = true) :
    decode rxcap romLen (encode i) = .instr i := by
  cases i with
  | cfg | hsk | adv | stop =>
    simp only [decode, encode, opField_pack]
    exact (decodePlain_eq_instr_iff _ _ _).2 (by simp)
  | dly k =>
    simp only [decode, encode, opField_pack]
    exact (decodeDly_eq_instr_iff _ _).2 ⟨k, by simp⟩
  | exe c e v =>
    simp only [decode, encode, opField_pack]
    exact (decodeExe_eq_instr_iff _ _ _).2 ⟨c, v, by simpa [Instr.wf] using h⟩
  | jmp t =>
    simp only [decode, encode, opField_pack]
    exact (decodeJmp_eq_instr_iff _ _ _).2 (by simpa [Instr.wf] using h)

/-- A word that decodes is the word of its descriptor, which is legal: the part of the decoder that OP selects has tested or
kept every other field. -/
theorem encode_of_decode (rxcap romLen : Nat) (w : Word) (i : Instr) (h : decode rxcap romLen w = .instr i) :
    encode i = w ∧ i.wf rxcap romLen = true := by
  unfold decode at h
  split at h
  case h_1 hop | h_3 hop | h_5 hop | h_7 hop =>
    obtain ⟨rfl, hzero⟩ := (decodePlain_eq_instr_iff _ _ _).1 h
    exact ⟨(pack_eq_iff _ _ _ _ _).2 ⟨BitVec.eq_of_toNat_eq hop, hzero⟩, rfl⟩
  case h_2 hop =>
    obtain ⟨k, rfl, hfields⟩ := (decodeDly_eq_instr_iff _ _).1 h
    exact ⟨(pack_eq_iff _ _ _ _ _).2 ⟨BitVec.eq_of_toNat_eq hop, hfields⟩, rfl⟩
  case h_4 hop =>
    obtain ⟨c, v, rfl, hcmd, hvar, hrsv, harg⟩ := (decodeExe_eq_instr_iff _ _ _).1 h
    exact ⟨(pack_eq_iff _ _ _ _ _).2 ⟨BitVec.eq_of_toNat_eq hop, hcmd, hvar, hrsv, rfl⟩, decide_eq_true harg⟩
  case h_6 hop =>
    obtain ⟨rfl, hcmd, hvar, hrsv, harg⟩ := (decodeJmp_eq_instr_iff _ _ _).1 h
    exact ⟨(pack_eq_iff _ _ _ _ _).2 ⟨BitVec.eq_of_toNat_eq hop, hcmd, hvar, hrsv, rfl⟩, decide_eq_true harg⟩
  case h_8 => cases h

theorem decode_eq_instr_iff (rxcap romLen : Nat) (w : Word) (i : Instr) :
    decode rxcap romLen w = .instr i ↔ encode i = w ∧ i.wf rxcap romLen = true := by
  constructor
  · exact encode_of_decode rxcap romLen w i
  · rintro ⟨rfl, hwf⟩; exact decode_encode rxcap romLen i hwf

end Sys2Proof

open Sys2Proof

/-- Settles O1: `decode_encode`. -/
theorem encodeThenDecode : Obligations.EncodeThenDecode := decode_encode

/-- Settles O2: `encode_of_decode`. -/
theorem decodeThenEncode : Obligations.DecodeThenEncode := encode_of_decode

/-- Settles O3: the words that decode are the words of the legal descriptors, and each row of the table holds the words of
its descriptors. -/
theorem legalWordsAreTheTable : Obligations.LegalWordsAreTheTable := by
  intro rxcap romLen w
  simp only [decode_eq_instr_iff, ← opField_toNat, ← cmdField_toNat, ← varField_toNat, ← rsvField_toNat,
    ← argField_toNat]
  constructor
  · rintro ⟨i, rfl, hwf⟩
    cases i with
    | cfg | hsk | adv | stop => simp [encode]
    | dly k => simp [encode, k.code_toNat_le]
    | exe c e v => simpa [encode, c.code_toNat_le, v.code_toNat_le, Instr.wf] using hwf
    | jmp t => simpa [encode, Instr.wf] using hwf
  · rintro (⟨hop, hcmd, hvar, hrsv, harg⟩ | ⟨hop, hcmd, hvar, hrsv, harg⟩ | ⟨hop, hcmd, hvar, hrsv, harg⟩ |
      ⟨hop, hcmd, hvar, hrsv, harg⟩)
    · rcases hop with hop | hop | hop | hop
      · exact ⟨.cfg, pack_eq_of_toNat hop hcmd hvar hrsv harg, rfl⟩
      · exact ⟨.hsk, pack_eq_of_toNat hop hcmd hvar hrsv harg, rfl⟩
      · exact ⟨.adv, pack_eq_of_toNat hop hcmd hvar hrsv harg, rfl⟩
      · exact ⟨.stop, pack_eq_of_toNat hop hcmd hvar hrsv harg, rfl⟩
    · obtain ⟨k, hk⟩ := (exists_delayClass_code_iff _).2 harg
      exact ⟨.dly k, pack_eq_of_toNat hop hcmd hvar hrsv (congrArg _ hk), rfl⟩
    · obtain ⟨c, hc⟩ := (exists_catalogId_code_iff _).2 hcmd
      obtain ⟨v, hv⟩ := (exists_variant_code_iff _).2 hvar
      exact ⟨.exe c (argField w) v, pack_eq_of_toNat hop (congrArg _ hc) (congrArg _ hv) hrsv rfl, decide_eq_true harg⟩
    · exact ⟨.jmp (argField w), pack_eq_of_toNat hop hcmd hvar hrsv rfl, decide_eq_true harg⟩

/-- Settles O4: a word that decodes is the packing of its descriptor's operands; a legal VAR has no second bit. -/
theorem operandsAreFields : Obligations.OperandsAreFields := by
  intro rxcap romLen w
  simp only [decode_eq_instr_iff, ← cmdField_toNat, ← argField_toNat]
  refine ⟨?exe, ?dly, ?jmp⟩
  case exe =>
    rintro c e v ⟨rfl, -⟩
    have hle := v.code_toNat_le
    have hvar := varField_toNat (encode (.exe c e v))
    simp only [encode, cmdField_pack, argField_pack, varField_pack, Nat.reducePow, true_and, and_true] at *
    omega
  case dly => rintro k ⟨rfl, -⟩; simp [encode]
  case jmp => rintro j ⟨rfl, -⟩; simp [encode]

/-- Settles O5: the twenty words compute. -/
theorem writtenWordsDecode : Obligations.WrittenWordsDecode := by
  unfold Obligations.WrittenWordsDecode
  decide
end

section
/-! The check of a configuration item by item (30_encoding.md R87, R95; 00_scope.md R8) and what it refuses
(60_exceptions.md R208, R209). -/

namespace Sys2Proof

/-! ### Padding -/

/-- A range inside the list is zero throughout where the list is zero at each of its indices. -/
theorem all_slice_eq_zero_iff (l : List Byte) (a b : Nat) (h : b ≤ l.length) :
    (slice l a b).all (· == 0#8) = true ↔ ∀ i, a ≤ i → i < b → l[i]? = some 0 := by
  simp only [List.all_eq_true, beq_iff_eq, List.forall_mem_iff_getElem, slice, List.length_take,
    List.length_drop, List.getElem_take, List.getElem_drop]
  constructor
  · intro hz i hai hib
    have hi := hz (i - a) (by omega)
    rw [List.getElem?_eq_getElem (by omega)]
    simpa [Nat.add_sub_cancel' hai] using hi
  · intro hz i hi
    exact (List.getElem?_eq_some_iff.1 (hz (a + i) (by omega) (by omega))).2

/-- Item 7 of R87 for frames of their declared lengths: the bytes from P on are zero, once P is given. -/
theorem paddingZero_iff (g : Config) (h : (g.frame .flashRead).length = g.declLen .flashRead) :
    g.paddingZero = true ↔ ∀ p, g.padStart = some p → ∀ i, p ≤ i → i < g.declLen .flashRead →
      (g.frame .flashRead)[i]? = some 0 := by
  unfold Config.paddingZero
  split
  case h_1 hnone => simp [hnone]
  case h_2 p hsome => simp [hsome, all_slice_eq_zero_iff _ _ _ h.ge]

/-! ### The chain of checks -/

/-- A configuration without a defect passes every check (R87, R95, R8). -/
theorem defect_eq_none_iff (g : Config) :
    g.defect = none ↔ g.checksumCheck = false ∧ g.framesDeclared = true ∧ g.declLen .magic = magicLen ∧
      g.addrOff + 4 ≤ g.declLen .flashRead ∧ g.framesNonempty = true ∧ (1 ≤ g.romLen ∧ g.romLen ≤ 255) ∧
      (1 ≤ g.rxcap ∧ g.rxcap ≤ 1024) ∧ g.paddingZero = true ∧ g.hOff < g.rxcap := by
  simp only [Config.defect, ite_eq_iff, reduceCtorEq, and_false, false_or, Bool.not_eq_true, Bool.not_eq_false, not_not,
    and_true]

/-- CHECKSUM_POLICY is the defect exactly where the checksum is on (R95). -/
theorem defect_eq_checksumPolicy_iff (g : Config) : g.defect = some .checksumPolicy ↔ g.checksumCheck = true := by
  unfold Config.defect
  split_ifs <;> simp_all

namespace Machine

/-- The refusal of a defect is CHECKSUM_POLICY, or CATALOG with the failed check (R209). -/
theorem refusalOf_cases (d : ConfigDefect) : refusalOf d = .checksumPolicy ∨ ∃ x, refusalOf d = .catalog x := by
  cases d with
  | checksumPolicy => exact .inl rfl
  | catalog x => exact .inr ⟨x, rfl⟩

/-- A refused configuration is refused at the first step after reset (R208). -/
theorem step_resetWith_of_defect (g : Config) (d : ConfigDefect) (h : g.defect = some d) :
    step (State.resetWith g) = .refused (refusalOf d) := step_marked _ d h

end Machine

end Sys2Proof

open Sys2Proof Sys2Proof.Machine

/-- Settles O47: the checks of `defect_eq_none_iff`, each as its own item says it. -/
theorem admittedConfigurations : Obligations.AdmittedConfigurations := by
  intro g
  rw [defect_eq_none_iff, framesDeclared_iff, framesNonempty_iff, magicLen, Config.romLen]
  constructor
  · rintro ⟨hsum, hframes, hmagic, haddr, hdecl, hrom, hcap, hpad, hoff⟩
    exact ⟨hframes, hmagic, haddr, hdecl, hsum, hrom, hcap, (paddingZero_iff g (hframes _)).1 hpad, hoff⟩
  · rintro ⟨hframes, hmagic, haddr, hdecl, hsum, hrom, hcap, hpad, hoff⟩
    exact ⟨hsum, hframes, hmagic, haddr, hdecl, hrom, hcap, (paddingZero_iff g (hframes _)).2 hpad, hoff⟩

/-- Settles O48: reset marks the state with the configuration's defect, and the mark alone decides the step. -/
theorem refusedConfigurationsDoNotRun : Obligations.RefusedConfigurationsDoNotRun := by
  refine ⟨fun g => ⟨fun hon => ?checksum, fun hoff hdefect => ?catalog, id⟩, fun s d hmark => ?marked⟩
  case checksum => exact step_resetWith_of_defect g _ ((defect_eq_checksumPolicy_iff g).2 hon)
  case catalog =>
    obtain ⟨d, hd⟩ := Option.ne_none_iff_exists'.1 hdefect
    cases d with
    | checksumPolicy => simp [(defect_eq_checksumPolicy_iff g).1 hd] at hoff
    | catalog x => exact ⟨x, step_resetWith_of_defect g _ hd⟩
  case marked => exact ⟨_, step_marked s d hmark, refusalOf_cases d⟩
end

section
/-! The FETCH of an illegal word, and the one descriptor that is refused (30_encoding.md R94, R95). -/

namespace Sys2Proof

namespace Machine

/-- `raiseFault` is the fault entry of R203. -/
theorem raiseFault_faultEntry (s : State) (code : FaultCode) : FaultEntry code s (s.raiseFault code) := by
  refine ⟨rfl, rfl, rfl, fun r hr hstatus => ?_, fun _ => rfl, ⟨rfl, rfl⟩, rfl, rfl, (List.append_nil s.trace).symm⟩
  cases r with
  | status => exact absurd rfl hstatus
  | fault | faultPc | sub => simp at hr
  | _ => rfl

/-- FETCH of a word of the ROM that is illegal faults (R94). -/
theorem fetchStep_of_illegal (s : State) (w : Word) (hw : s.fetchWord = some w)
    (h : ∀ i, decode s.cfg.rxcap s.cfg.romLen w ≠ .instr i) :
    fetchStep s = .next (s.raiseFault .illegalDescriptor) := by
  cases hd : decode s.cfg.rxcap s.cfg.romLen w with
  | instr i => exact absurd hd (h i)
  | illegal why => simp [fetchStep, hw, hd]

/-- Every descriptor but EXE has a next state (R165 to R180). -/
theorem exec_next_or_exe (i : Instr) (s : State) : (∃ t, exec i s = .next t) ∨ ∃ c e v, i = .exe c e v := by
  cases i with
  | exe c e v => exact .inr ⟨c, e, v, rfl⟩
  | _ => exact .inl ⟨_, rfl⟩

theorem execExe_eq_refused_iff (c : CatalogId) (e : BitVec 16) (v : Variant) (s : State) (r : Refusal) :
    execExe c e v s = .refused r ↔ r = .baudSwitch ∧ s.chcfg = true ∧ c = .baudSwitch := by
  unfold execExe
  split_ifs with hcfg hc
  · simp [hcfg]
  · simp [hcfg, hc, eq_comm]
  · simp [hc]

end Machine

end Sys2Proof

open Sys2Proof Sys2Proof.Machine

/-- Settles O9: the step is FETCH, which raises the fault. -/
theorem illegalWordFaults : Obligations.IllegalWordFaults := by
  intro s w hmark hsub hw hillegal
  have hstep : step s = fetchStep s := by rw [step_unmarked s hmark, subStep, hsub]
  exact ⟨_, hstep.trans (fetchStep_of_illegal s w hw hillegal), raiseFault_faultEntry s _⟩

/-- Settles O21: only EXE can be refused, and `execExe` refuses BAUD_SWITCH alone. -/
theorem onlyBaudSwitchRefused : Obligations.OnlyBaudSwitchRefused := by
  intro s i r
  constructor
  · intro h
    obtain ⟨t, ht⟩ | ⟨c, e, v, rfl⟩ := exec_next_or_exe i s
    · simp [ht] at h
    · obtain ⟨hr, hcfg, rfl⟩ := (execExe_eq_refused_iff c e v s r).1 h
      exact ⟨hr, hcfg, e, v, rfl⟩
  · rintro ⟨hr, hcfg, e, v, rfl⟩
    exact (execExe_eq_refused_iff _ e v s r).2 ⟨hr, hcfg, rfl⟩
end

section
/-! What the channel does in one step, seen from its two ends (40_channel.md R112 to R116): what a send puts on the wire, and
which sub-states receive. -/

namespace Sys2Proof.Machine

variable {s t : State}

/-! ### The wire -/

/-- A step sends nothing and leaves the wire alone, or sends one composed frame, of which the wire gets what the channel's
answer lets through (R112, R113). -/
theorem StepCase.wire_cases (h : StepCase s t) :
    (t.chan.wire = s.chan.wire ∧ ∀ c f r, t.trace ≠ s.trace ++ [.send c f r]) ∨
    ∃ c, t.trace = s.trace ++ [.send c (s.frame c) s.chan.sendAnswer.result] ∧
      t.chan.wire = s.chan.wire ++ s.chan.sendAnswer.onWire (s.frame c) := by
  cases h with
  | xSendOk | xSendTimeout | hMagicOk | hMagicTimeout | hReqOk | hReqTimeout => exact .inr ⟨_, rfl, rfl⟩
  | cfgFail | cfgOk => exact .inl ⟨popCfg_wire _, by simp⟩
  | xRecv | acknowledged | notReady => exact .inl ⟨popRecv_wire _, by simp⟩
  | _ => exact .inl ⟨rfl, by simp⟩

/-! ### Receives -/

/-- Only X_RECV and H_RECV receive (R133, R172). -/
theorem StepCase.recv_from (h : StepCase s t) {n : Nat} {b : List Byte} (ht : t.trace = s.trace ++ [.recv n b]) :
    s.sub = .xRecv ∨ s.sub = .hRecv := by
  cases h with
  | xRecv hs => exact .inl hs
  | acknowledged hs | notReady hs => exact .inr hs
  | _ => simp at ht

/-- Where the block waits to receive, the last event is the completed send of a composed frame (R116, R240). -/
theorem State.Inv.getLast?_of_awaiting (hi : s.Inv) (hs : s.sub = .xRecv ∨ s.sub = .hRecv) :
    ∃ c, s.trace.getLast? = some (.send c (s.frame c) .ok) := by
  obtain ⟨hx, hh⟩ := hi.awaiting
  obtain hs | hs := hs
  · exact ⟨_, hx hs⟩
  · exact ⟨_, hh hs⟩

end Sys2Proof.Machine

open Sys2Proof Sys2Proof.Machine

/-- Settles O34: a send step's wire is `SendAnswer.onWire` of the frame it logs, which is a prefix of it. -/
theorem wireGetsFramePrefixes : Obligations.WireGetsFramePrefixes := by
  intro s t hstep
  obtain hquiet | ⟨c, htrace, hwire⟩ := (step_cases s t hstep).wire_cases
  · exact .inl hquiet
  · obtain ⟨k, hk, hall⟩ := onWire_eq s.chan.sendAnswer (s.frame c)
    exact .inr ⟨c, _, k, htrace, hk ▸ hwire, hall⟩

/-- Settles O35: the logged receive is within the capacity, and the invariant says what the receiving sub-states wait on. -/
theorem receiveFollowsSend : Obligations.ReceiveFollowsSend := by
  intro s t n b hi hstep htrace
  have h := step_cases s t hstep
  obtain ⟨hn, hcap⟩ := h.keeps_receivedLen hi n b (by simp [htrace])
  exact ⟨hn, h.keeps_config.1 ▸ hcap, hi.getLast?_of_awaiting (h.recv_from htrace)⟩
end

section
/-! The contract of each step of EXE (41_executor.md R131 to R138): its fetch, the send, the receive, the match with its
prints, and the retry delay. -/

namespace Sys2Proof.Machine

variable {s t u : State}

/-! ### Frames -/

/-- A frame register by register: each register is listed, is the view `STATUS`, or reads as before. -/
theorem keepsRegs_of {w : List Reg} (h : ∀ r, r ∈ w ∨ r = .status ∨ t.reg r = s.reg r) : keepsRegs w s t :=
  fun r hr hstatus => ((h r).resolve_left hr).resolve_left hstatus

/-! ### The send -/

theorem sendStep_of_ok (s : State) (c : CatalogId) (onOk onTimeout : Sub) (h : s.chan.sendAnswer = .ok) :
    s.sendStep c onOk onTimeout = { s.chSend c with txto := false, sub := onOk } := by
  simp [State.sendStep, h, SendAnswer.result]

theorem sendStep_of_timeout (s : State) (c : CatalogId) (onOk onTimeout : Sub) (k : Nat)
    (h : s.chan.sendAnswer = .timeout k) :
    s.sendStep c onOk onTimeout =
      { (s.chSend c).emit (.txTimeout c) with txto := true, lastEvt := .txTimeout, sub := onTimeout } := by
  simp [State.sendStep, h, SendAnswer.result]

/-- Whatever the answer, one frame is sent and `RXBUF` is left alone (R112, R113). -/
theorem sendStep_sent (s : State) (c : CatalogId) (onOk onTimeout : Sub) :
    Sent c s (s.sendStep c onOk onTimeout) ∧ keepsRxbuf s (s.sendStep c onOk onTimeout) := by
  obtain ⟨-, e⟩ | ⟨-, e⟩ := sendStep_cases s c onOk onTimeout <;> rw [e] <;>
    exact ⟨⟨⟨rfl, rfl⟩, rfl, rfl, popSend_sends _, popSend_receives _, popSend_configures _⟩, fun _ => rfl⟩

theorem attempt_of_exhausted (s : State) (c : CatalogId) (onOk onTimeout : Sub)
    (h : s.cfg.maxAttempts ≠ 0 ∧ s.attempts = s.cfg.maxAttempts) :
    s.attempt c onOk onTimeout = s.raiseFault .retryExhausted :=
  ((attempt_cases s c onOk onTimeout).resolve_right fun hx => hx.1 h).2

theorem attempt_of_not_exhausted (s : State) (c : CatalogId) (onOk onTimeout : Sub)
    (h : ¬ (s.cfg.maxAttempts ≠ 0 ∧ s.attempts = s.cfg.maxAttempts)) :
    s.attempt c onOk onTimeout = { s.sendStep c onOk onTimeout with attempts := countAttempt s.attempts } :=
  ((attempt_cases s c onOk onTimeout).resolve_left fun hx => h hx.1).2

/-- An attempt below the limit: counted, sent, and gone on from by the channel's answer (R132, R171). -/
theorem attempt_contract (s : State) (c : CatalogId) (onOk onTimeout : Sub)
    (h : ¬ (s.cfg.maxAttempts ≠ 0 ∧ s.attempts = s.cfg.maxAttempts)) (ht : s.attempt c onOk onTimeout = t) :
    Sent c s t ∧ keepsRxbuf s t ∧ t.attempts.toNat = min (s.attempts.toNat + 1) (2 ^ 32 - 1) ∧
      (s.chan.sendAnswer = .ok → t.sub = onOk ∧ t.txto = false ∧ t.console = s.console ∧
        keepsRegs [.sub, .attempts, .txto] s t) ∧
      (∀ k, s.chan.sendAnswer = .timeout k → t.sub = onTimeout ∧ t.txto = true ∧ t.lastEvt = .txTimeout ∧
        t.console = s.console ++ [.txTimeout c] ∧ keepsRegs [.sub, .attempts, .txto, .lastEvt] s t) := by
  obtain ⟨hsent, hrx⟩ := sendStep_sent s c onOk onTimeout
  rw [attempt_of_not_exhausted s c onOk onTimeout h] at ht
  subst ht
  refine ⟨hsent, hrx, countAttempt_toNat _, fun hok => ?ok, fun k htimeout => ?timeout⟩
  case ok =>
    rw [sendStep_of_ok s c _ _ hok]
    exact ⟨rfl, rfl, rfl, keepsRegs_of fun r => by cases r <;> simp [State.reg]⟩
  case timeout =>
    rw [sendStep_of_timeout s c _ _ k htimeout]
    exact ⟨rfl, rfl, rfl, rfl, keepsRegs_of fun r => by cases r <;> simp [State.reg]⟩

/-! ### The receive -/

/-- A receive under an admitted configuration fills `RXBUF` and writes `RLEN` alone (R66, R114). -/
theorem chReceive_received (s : State) (h : s.cfg.defect = none) :
    Received s s.chReceive ∧ keepsRegs [.rlen] s s.chReceive :=
  ⟨⟨⟨rfl, rfl⟩, rfl, received_toNat s h, read_ofBytes_zero _, rfl, popRecv_receives _, popRecv_sends _,
      popRecv_configures _, popRecv_wire _⟩,
    keepsRegs_of fun r => by cases r <;> simp [State.reg]⟩

/-! ### The match -/

/-- What X_MATCH adds to `CONSOLE` for the response `b` (R137, R138). -/
def State.matchRecords (s : State) (b : List Byte) (ok : Bool) : List ConsoleRecord :=
  match s.varsel, ok with
  | .verbose, ok => [.vLen s.rlen.toNat, .vDump b, .vCmp s.rlen.toNat s.exp.toNat ok]
  | .silent, true => [.sPayload ((b.take (s.rlen.toNat - 1)).drop s.cfg.hOff)]
  | .silent, false => []

theorem silentCount_eq (hOff rlen : Nat) : silentCount hOff rlen = rlen - 1 - hOff := by
  unfold silentCount
  omega

/-- Where the first `RLEN` cells hold `b`, the print succeeds and adds its records to `CONSOLE` (R134, R137, R138). -/
theorem printMatch_eq (s : State) (b : List Byte) (ok : Bool) (hlen : b.length = s.rlen.toNat)
    (hb : ∀ i, i < s.rlen.toNat → s.rxbuf.read i = b[i]?) :
    printMatch s ok = some { s with console := s.console ++ s.matchRecords b ok } := by
  have hdump : s.rxReadRange 0 s.rlen.toNat = some b := by
    rw [rxReadRange_eq s b hlen hb 0 _ (.inl (by omega)), List.drop_zero, List.take_of_length_le hlen.le]
  have hpayload : s.rxReadRange s.cfg.hOff (silentCount s.cfg.hOff s.rlen.toNat) =
      some ((b.take (s.rlen.toNat - 1)).drop s.cfg.hOff) := by
    rw [silentCount_eq, rxReadRange_eq s b hlen hb _ _ (by omega), List.drop_take]
  obtain hv | hv : s.varsel = .verbose ∨ s.varsel = .silent := by cases s.varsel <;> simp
  · simp [printMatch, State.matchRecords, hv, printVerbose, hdump, State.emit]
  · cases ok with
    | true => simp [printMatch, State.matchRecords, hv, printSilent, hpayload, State.emit]
    | false =>
      have hprint : printMatch s false = some s := by simp [printMatch, hv]
      have hnone : s.matchRecords b false = [] := by simp [State.matchRecords, hv]
      rw [hprint, hnone, List.append_nil]

/-- X_MATCH where the first `RLEN` cells hold `b` (R134). -/
theorem xMatch_eq (s : State) (b : List Byte) (hlen : b.length = s.rlen.toNat)
    (hb : ∀ i, i < s.rlen.toNat → s.rxbuf.read i = b[i]?) :
    xMatch s = .next (matchEnd
      { s with console := s.console ++ s.matchRecords b (lengthMatches s.rlen s.exp) } (lengthMatches s.rlen s.exp)) := by
  rw [xMatch, printMatch_eq s b _ hlen hb]

/-! ### What a step of a running EXE does -/

/-- A running EXE reaches FETCH only from X_MATCH, on a match (R145). -/
theorem StepCase.matches_of_fetch (h : StepCase s t) (hs : s.sub.inExe = true) (ht : t.sub = .fetch) :
    s.sub = .xMatch ∧ lengthMatches s.rlen s.exp = true ∧ t.seqPc = s.seqPc + 1 := by
  cases h with
  | matched _ hsub hm => exact ⟨hsub, hm, rfl⟩
  | cfgOk hsub | dly _ hsub | adv hsub | jmp _ hsub | acknowledged hsub => simp [hsub, Sub.inExe] at hs
  | _ => nomatch ht

/-- A send of a running EXE is of the selected command (R132). -/
theorem StepCase.sends_cmdsel (h : StepCase s t) (hs : s.sub.inExe = true) {c f r}
    (ht : t.trace = s.trace ++ [.send c f r]) : c = s.cmdsel ∧ f = s.frame s.cmdsel := by
  cases h with
  | xSendOk | xSendTimeout =>
    obtain ⟨hc, hf, -⟩ : s.cmdsel = c ∧ s.frame s.cmdsel = f ∧ _ := by simpa using ht
    exact ⟨hc.symm, hf.symm⟩
  | hMagicOk hsub | hMagicTimeout hsub | hReqOk hsub | hReqTimeout hsub => simp [hsub, Sub.inExe] at hs
  | _ => simp at ht

theorem Sub.ne_fetch_of_inExe {x : Sub} (h : x.inExe = true) : x ≠ .fetch := fun e => by simp [e, Sub.inExe] at h

/-- No step of a running EXE writes its operands (R39, R141). -/
theorem StepCase.keeps_operands (h : StepCase s t) (hs : s.sub.inExe = true) :
    t.cmdsel = s.cmdsel ∧ t.varsel = s.varsel ∧ t.exp = s.exp := by
  obtain hkeep | ⟨hsub, -⟩ | ⟨_, _, _, hsub, -⟩ := h.operand_cases
  · exact hkeep
  · exact absurd hsub (Sub.ne_fetch_of_inExe hs)
  · exact absurd hsub (Sub.ne_fetch_of_inExe hs)

/-- No step of a running EXE writes `CMDSEL` or `CUR`, so the frame stays (R141). -/
theorem StepCase.keeps_frame (h : StepCase s t) (hs : s.sub.inExe = true) :
    t.cmdsel = s.cmdsel ∧ t.cur = s.cur ∧ t.frame t.cmdsel = s.frame s.cmdsel := by
  have hcur : t.cur = s.cur := h.cur_cases.resolve_right fun hx => Sub.ne_fetch_of_inExe hs hx.1
  obtain ⟨hcmd, -⟩ := h.keeps_operands hs
  exact ⟨hcmd, hcur, hcmd ▸ frame_congr s t h.keeps_config.1 hcur _⟩

end Sys2Proof.Machine

open Sys2Proof Sys2Proof.Machine

/-- Settles O20: the three ways of `execExe`; a legal expected length fits `EXP`. -/
theorem exeStarts : Obligations.ExeStarts := by
  intro s c e v
  refine ⟨fun hcfg => ?unconfigured, fun hcfg hc => ?baud, fun hcfg hc he hcap => ?starts⟩
  case unconfigured => exact ⟨_, by rw [exec, execExe, if_pos hcfg], raiseFault_faultEntry s _⟩
  case baud => exact (execExe_eq_refused_iff c e v s _).2 ⟨rfl, hcfg, hc⟩
  case starts =>
    have hexec : exec (.exe c e v) s =
        .next { s with cmdsel := c, exp := expOperand e, varsel := v, attempts := 0, sub := .xSend } := by
      simp [exec, execExe, hcfg, hc]
    refine ⟨_, hexec, rfl, expOperand_toNat e (by omega), rfl, rfl, rfl, keepsRegs_of fun r => ?_, fun _ => rfl,
      ⟨rfl, rfl⟩, rfl, rfl, (List.append_nil s.trace).symm⟩
    cases r <;> simp [State.reg]

/-- Settles O22: X_SEND is an attempt of the selected command. -/
theorem executorSendStep : Obligations.ExecutorSendStep := by
  intro s hmark hsub
  have hstep : step s = .next (s.attempt s.cmdsel .xRecv .xDelay) := by rw [step_unmarked s hmark, subStep, hsub, xSend]
  refine ⟨fun hx => ?_, fun hx => ⟨_, hstep, attempt_contract s _ _ _ hx rfl⟩⟩
  exact ⟨_, hstep.trans (by rw [attempt_of_exhausted s _ _ _ hx]), raiseFault_faultEntry s _⟩

/-- Settles O23: X_RECV is a receive, and writes `SUB` besides. -/
theorem executorReceiveStep : Obligations.ExecutorReceiveStep := by
  intro s hadm hsub
  obtain ⟨hmark, hdefect⟩ := hadm
  have hstep : step s = .next { s.chReceive with sub := .xMatch } := by rw [step_unmarked s hmark, subStep, hsub, xRecv]
  refine ⟨_, hstep, (chReceive_received s hdefect).1, rfl, keepsRegs_of fun r => ?_⟩
  cases r <;> simp [State.reg]

/-- Settles O24: the print adds its records, and the comparison of lengths alone chooses the end. -/
theorem matchStep : Obligations.MatchStep := by
  intro s b hmark hsub hlen hb
  have hstep : step s = xMatch s := by rw [step_unmarked s hmark, subStep, hsub]
  rw [hstep, xMatch_eq s b hlen hb, ← lengthMatches_iff]
  cases hm : lengthMatches s.rlen s.exp with
  | true =>
    refine ⟨_, rfl, fun _ => rfl, ⟨rfl, rfl⟩, rfl, rfl, fun _ => ⟨⟨rfl, rfl⟩, rfl, rfl, keepsRegs_of fun r => ?_,
      fun hv => ?_, fun hv => ?_⟩, fun hn => absurd rfl hn⟩
    · cases r <;> simp [State.reg, matchEnd]
    · simp [matchEnd, State.matchRecords, hv]
    · simp [matchEnd, State.matchRecords, hv]
  | false =>
    refine ⟨_, rfl, fun _ => rfl, ⟨rfl, rfl⟩, rfl, rfl, nofun, fun _ => ⟨rfl, rfl, rfl, keepsRegs_of fun r => ?_,
      fun hv => ?_, fun hv => ?_⟩⟩
    · cases r <;> simp [State.reg, matchEnd]
    · simp [matchEnd, State.matchRecords, hv]
    · simp [matchEnd, State.matchRecords, hv]

/-- Settles O26: X_DELAY logs the retry delay and writes `SUB`. -/
theorem executorDelayStep : Obligations.ExecutorDelayStep := by
  intro s hmark hsub
  have hstep : step s = .next { s.delay .xRetry with sub := .xSend } := by
    rw [step_unmarked s hmark, subStep, hsub, xDelay]
  refine ⟨_, hstep, rfl, keepsRegs_of fun r => ?_, fun _ => rfl, ⟨rfl, rfl⟩, rfl, rfl, rfl⟩
  cases r <;> simp [State.reg]

/-- Settles O28: the one step of a running EXE that reaches FETCH. -/
theorem exeRetiresOnlyOnMatch : Obligations.ExeRetiresOnlyOnMatch := by
  intro s t hs hstep ht
  obtain ⟨hsub, hm, hpc⟩ := (step_cases s t hstep).matches_of_fetch hs ht
  exact ⟨hsub, (lengthMatches_iff _ _).1 hm, hpc⟩

/-- Settles O29: the frame's registers are written outside EXE only, and EXE sends nothing but that frame. -/
theorem retriesSendSameFrame : Obligations.RetriesSendSameFrame := by
  intro s t hs hstep
  have h := step_cases s t hstep
  obtain ⟨hcmd, hcur, hframe⟩ := h.keeps_frame hs
  exact ⟨hcmd, hcur, hframe, fun c f r ht => h.sends_cmdsel hs ht⟩
end

section
/-! The register file says what the fields are (10_state.md R23): two states whose registers read the same hold the same field
values, so a frame of registers is a frame of fields. -/

namespace Sys2Proof.Machine

variable {s t u : State} {v w : List Reg}

/-! ### The codes are one to one (R31, R32, R86, R201) -/

theorem Sub.code_injective : Function.Injective Sub.code :=
  Function.LeftInverse.injective (g := fun b => Sub.ofNat b.toNat) fun a => by cases a <;> rfl

theorem LastEvt.code_injective : Function.Injective LastEvt.code :=
  Function.LeftInverse.injective (g := fun b => LastEvt.ofNat b.toNat) fun a => by cases a <;> rfl

theorem FaultCode.code_injective : Function.Injective FaultCode.code :=
  Function.LeftInverse.injective (g := fun b => FaultCode.ofNat b.toNat) fun a => by cases a <;> rfl

theorem catalogId_code_injective : Function.Injective CatalogId.code := fun a b h =>
  Option.some.inj (by rw [← catalogId_ofCode_code a, h, catalogId_ofCode_code])

theorem variantBit_injective : Function.Injective variantBit :=
  Function.LeftInverse.injective (g := fun b => if b then .verbose else .silent) fun a => by cases a <;> rfl

/-! ### A register's reading is its field (R23) -/

theorem setWidth_inj {n : Nat} (h : n ≤ 32) {x y : BitVec n} : x.setWidth 32 = y.setWidth 32 ↔ x = y := by
  rw [← BitVec.toNat_inj, (setWidth_reads x h).1, (setWidth_reads y h).1, BitVec.toNat_inj]

theorem setWidth_ofBool_inj {a b : Bool} :
    (BitVec.ofBool a).setWidth 32 = (BitVec.ofBool b).setWidth 32 ↔ a = b := by
  cases a <;> cases b <;> decide

theorem reg_seqPc_inj : t.reg .seqPc = s.reg .seqPc ↔ t.seqPc = s.seqPc := setWidth_inj (by decide)
theorem reg_sub_inj : t.reg .sub = s.reg .sub ↔ t.sub = s.sub :=
  (setWidth_inj (by decide)).trans Sub.code_injective.eq_iff
theorem reg_cmdsel_inj : t.reg .cmdsel = s.reg .cmdsel ↔ t.cmdsel = s.cmdsel :=
  (setWidth_inj (by decide)).trans catalogId_code_injective.eq_iff
theorem reg_varsel_inj : t.reg .varsel = s.reg .varsel ↔ t.varsel = s.varsel :=
  setWidth_ofBool_inj.trans variantBit_injective.eq_iff
theorem reg_exp_inj : t.reg .exp = s.reg .exp ↔ t.exp = s.exp := setWidth_inj (by decide)
theorem reg_rlen_inj : t.reg .rlen = s.reg .rlen ↔ t.rlen = s.rlen := setWidth_inj (by decide)
theorem reg_fault_inj : t.reg .fault = s.reg .fault ↔ t.fault = s.fault :=
  (setWidth_inj (by decide)).trans FaultCode.code_injective.eq_iff
theorem reg_faultPc_inj : t.reg .faultPc = s.reg .faultPc ↔ t.faultPc = s.faultPc := setWidth_inj (by decide)
theorem reg_lastEvt_inj : t.reg .lastEvt = s.reg .lastEvt ↔ t.lastEvt = s.lastEvt :=
  (setWidth_inj (by decide)).trans LastEvt.code_injective.eq_iff
theorem reg_chcfg_inj : t.reg .chcfg = s.reg .chcfg ↔ t.chcfg = s.chcfg := setWidth_ofBool_inj
theorem reg_hsdone_inj : t.reg .hsdone = s.reg .hsdone ↔ t.hsdone = s.hsdone := setWidth_ofBool_inj
theorem reg_txto_inj : t.reg .txto = s.reg .txto ↔ t.txto = s.txto := setWidth_ofBool_inj
theorem reg_matched_inj : t.reg .matched = s.reg .matched ↔ t.matched = s.matched := setWidth_ofBool_inj

/-! ### A register a frame does not list keeps its field -/

theorem keepsRegs.seqPc_eq (h : keepsRegs w s t) (hw : .seqPc ∉ w) : t.seqPc = s.seqPc := reg_seqPc_inj.1 (h _ hw nofun)
theorem keepsRegs.cmdsel_eq (h : keepsRegs w s t) (hw : .cmdsel ∉ w) : t.cmdsel = s.cmdsel := reg_cmdsel_inj.1 (h _ hw nofun)
theorem keepsRegs.varsel_eq (h : keepsRegs w s t) (hw : .varsel ∉ w) : t.varsel = s.varsel := reg_varsel_inj.1 (h _ hw nofun)
theorem keepsRegs.exp_eq (h : keepsRegs w s t) (hw : .exp ∉ w) : t.exp = s.exp := reg_exp_inj.1 (h _ hw nofun)
theorem keepsRegs.rlen_eq (h : keepsRegs w s t) (hw : .rlen ∉ w) : t.rlen = s.rlen := reg_rlen_inj.1 (h _ hw nofun)
theorem keepsRegs.cur_eq (h : keepsRegs w s t) (hw : .cur ∉ w) : t.cur = s.cur := h .cur hw nofun
theorem keepsRegs.attempts_eq (h : keepsRegs w s t) (hw : .attempts ∉ w) : t.attempts = s.attempts := h .attempts hw nofun

/-! ### Frames one after another -/

theorem keepsRegs.trans (h : keepsRegs v s t) (h' : keepsRegs w t u) : keepsRegs (v ++ w) s u :=
  fun r hr hstatus => by
    rw [List.mem_append, not_or] at hr
    exact (h' r hr.2 hstatus).trans (h r hr.1 hstatus)

theorem keepsRegs.mono (h : keepsRegs v s t) (hvw : v ⊆ w) : keepsRegs w s t :=
  fun r hr hstatus => h r (fun hv => hr (hvw hv)) hstatus

theorem rxcap_le (g : Config) (h : g.defect = none) : g.rxcap ≤ 1024 := by
  obtain ⟨-, -, -, -, hcap⟩ := admitted_bounds g h
  exact hcap

theorem keepsConfig.admitted (h : keepsConfig s t) (hs : s.admitted) : t.admitted :=
  ⟨h.2.trans hs.1, h.1 ▸ hs.2⟩

end Sys2Proof.Machine
end

section
/-! One EXE from its fetch to its retirement (41_executor.md R145, R146): the four steps where a matching response waits, and the
shape of what any run of it appends to `TRACE`. -/

namespace Sys2Proof.Machine

variable {s t u : State}

/-! ### Runs -/

theorem runs_succ {k : Nat} (h : step s = .next u) : runs (k + 1) s = runs k u := by simp [runs, h]

/-- What every step from inside `p` keeps holds at the end of a run inside `p`. -/
theorem runsInside_induction {p : State → Bool} {P : State → Prop}
    (hkeep : ∀ x y, p x = true → step x = .next y → P x → P y) {k : Nat} (hs : P s) (h : runsInside p k s = some t) :
    P t := by
  induction k generalizing s with
  | zero => cases h; exact hs
  | succ k ih =>
    rw [runsInside] at h
    split at h
    · split at h
      · exact ih (hkeep _ _ ‹_› ‹_› hs) h
      · cases h
      · cases h
    · cases h

/-! ### The four steps of R145 -/

/-- An EXE whose first send completes stands at X_RECV after two steps, one attempt counted (R131, R132). -/
theorem exe_sends (c : CatalogId) (e : BitVec 16) (v : Variant) (hadm : s.admitted) (hsub : s.sub = .fetch)
    (hf : s.fetched = some (.exe c e v)) (hcfg : s.chcfg = true) (hc : c ≠ .baudSwitch)
    (hok : s.chan.sendAnswer = .ok) :
    ∃ x u, step s = .next x ∧ step x = .next u ∧ keepsConfig s u ∧ u.sub = .xRecv ∧ u.attempts = 1 ∧ u.cmdsel = c ∧
      u.exp.toNat = e.toNat ∧ u.varsel = v ∧ u.trace = s.trace ++ [.send c (s.frame c) .ok] ∧
      u.chan.receives = s.chan.receives ∧ keepsRegs [.cmdsel, .exp, .varsel, .attempts, .txto, .sub] s u := by
  have hfetch : step s = exec (.exe c e v) s := by
    rw [step_unmarked s hadm.1, subStep, hsub]
    exact fetchStep_fetched s _ hf
  obtain ⟨-, -, hstarts⟩ := exeStarts s c e v
  obtain ⟨x, hx, hxcmd, hxexp, hxvar, hxatt, hxsub, hxregs, -, ⟨hxcfg, hxmark⟩, -, hxchan, hxtrace⟩ :=
    hstarts hcfg hc (fetched_exe s c e v hf) (rxcap_le _ hadm.2)
  have hbelow : ¬ (x.cfg.maxAttempts ≠ 0 ∧ x.attempts = x.cfg.maxAttempts) := fun h => h.1 (h.2.symm.trans hxatt)
  obtain ⟨u, hu, ⟨⟨hucfg, humark⟩, hutrace, -, -, hurecv, -⟩, -, huatt, huok, -⟩ :=
    (executorSendStep x (hxmark.trans hadm.1) hxsub).2 hbelow
  obtain ⟨husub, -, -, huregs⟩ := huok (hxchan ▸ hok)
  have hframe : x.frame c = s.frame c := frame_congr s x hxcfg (hxregs.cur_eq (by decide)) c
  have hresult : x.chan.sendAnswer.result = .ok := by rw [hxchan, hok]; rfl
  refine ⟨x, u, hfetch.trans hx, hu, ⟨hucfg.trans hxcfg, humark.trans hxmark⟩, husub, ?_, ?_, ?_, ?_, ?_, ?_, ?_⟩
  · exact BitVec.eq_of_toNat_eq (by rw [huatt, hxatt]; rfl)
  · exact (huregs.cmdsel_eq (by decide)).trans hxcmd
  · rw [huregs.exp_eq (by decide), hxexp]
  · exact (huregs.varsel_eq (by decide)).trans hxvar
  · rw [hutrace, hxtrace, hxcmd, hframe, hresult, List.append_nil]
  · rw [hurecv, hxchan]
  · exact (hxregs.trans huregs).mono (by decide)

/-- An EXE at X_RECV retires in two steps where the response has a matching length (R133, R134). -/
theorem exe_retires (hadm : s.admitted) (hsub : s.sub = .xRecv)
    (hmatch : s.exp.toNat = 0 ∨ s.received.length = s.exp.toNat) :
    ∃ x t, step s = .next x ∧ step x = .next t ∧ Retired s t ∧ t.rlen.toNat = s.received.length ∧ t.matched = true ∧
      t.lastEvt = .matched ∧ (∀ i, t.rxbuf.read i = s.received[i]?) ∧
      t.trace = s.trace ++ [.recv s.received.length s.received] ∧
      keepsRegs [.rlen, .matched, .lastEvt, .seqPc, .sub] s t := by
  obtain ⟨x, hx, ⟨hxconfig, -, hxlen, hxcells, hxtrace, -⟩, hxsub, hxregs⟩ := executorReceiveStep s hadm hsub
  have hxexp : x.exp = s.exp := hxregs.exp_eq (by decide)
  obtain ⟨t, ht, htcells, -, httrace, -, htmatch, -⟩ :=
    matchStep x s.received (hxconfig.admitted hadm).1 hxsub hxlen.symm fun i _ => hxcells i
  obtain ⟨⟨htpc, htsub⟩, htmatched, htevt, htregs, -⟩ := htmatch (by rw [hxexp, hxlen]; exact hmatch)
  refine ⟨x, t, hx, ht, ⟨?_, htsub⟩, ?_, htmatched, htevt, fun i => (htcells i).trans (hxcells i),
    httrace.trans hxtrace, (hxregs.trans htregs).mono (by decide)⟩
  · rw [htpc, hxregs.seqPc_eq (by decide)]
  · rw [htregs.rlen_eq (by decide), hxlen]

/-! ### The trace of a running EXE (R146) -/

theorem ExeRetries.append {c f e} {l m : List TraceEvent} (hl : ExeRetries c f e l) (hm : ExeRetries c f e m) :
    ExeRetries c f e (l ++ m) := by
  induction hl with
  | none => exact hm
  | timeout rest _ ih => exact .timeout _ ih
  | mismatch n b rest hn _ ih => exact .mismatch n b _ hn ih

/-- What an EXE of the frame `f` of `c` with expected length `e` has appended to `TRACE` when it stands at `x.sub`. -/
def State.exeLogged (x : State) (c : CatalogId) (f : List Byte) (e : Nat) (l : List TraceEvent) : Prop :=
  match x.sub with
  | .xSend => ExeRetries c f e l
  | .xRecv => ∃ retries, ExeRetries c f e retries ∧ l = retries ++ [.send c f .ok]
  | .xMatch => ∃ retries b, ExeRetries c f e retries ∧ l = retries ++ [.send c f .ok, .recv x.rlen.toNat b]
  | .xDelay => ExeRetries c f e (l ++ [.delay .xRetry])
  | .fetch => ExeTrace c f e l
  | .hMagic | .hReq | .hRecv | .hDelay | .halted | .faulted => True

/-- `x` stands in a run of the EXE that `s` fetched: while it runs its operands are in place, and it has logged what its
sub-state says. -/
structure ExeSince (s : State) (c : CatalogId) (e : Nat) (x : State) : Prop where
  config   : x.cfg = s.cfg
  operands : x.sub.inExe = true → x.cmdsel = c ∧ x.frame c = s.frame c ∧ x.exp.toNat = e
  logged   : ∃ l, x.trace = s.trace ++ l ∧ x.exeLogged c (s.frame c) e l

/-- One step of a running EXE appends what leads from its sub-state to the next (R132 to R135). -/
theorem StepCase.exeLogged_append (h : StepCase s t) (hs : s.sub.inExe = true) (hdefect : s.cfg.defect = none)
    {l : List TraceEvent} (hl : s.exeLogged s.cmdsel (s.frame s.cmdsel) s.exp.toNat l) :
    ∃ m, t.trace = s.trace ++ m ∧ t.exeLogged s.cmdsel (s.frame s.cmdsel) s.exp.toNat (l ++ m) := by
  cases h with
  | exhausted => exact ⟨[], (List.append_nil _).symm, trivial⟩
  | xSendOk hsub _ hok =>
    simp only [State.exeLogged, hsub] at hl
    exact ⟨_, rfl, l, hl, by rw [hok]⟩
  | xSendTimeout hsub _ htimeout =>
    simp only [State.exeLogged, hsub] at hl
    refine ⟨_, rfl, ?_⟩
    rw [htimeout]
    simpa [State.exeLogged] using hl.append (.timeout _ .none)
  | xRecv hsub =>
    simp only [State.exeLogged, hsub] at hl
    obtain ⟨retries, hr, rfl⟩ := hl
    exact ⟨_, rfl, retries, s.received, hr, by simp [received_toNat s hdefect]⟩
  | matched _ hsub hm =>
    simp only [State.exeLogged, hsub] at hl
    obtain ⟨retries, b, hr, rfl⟩ := hl
    exact ⟨[], (List.append_nil _).symm, retries, _, b, hr, (lengthMatches_iff _ _).1 hm, List.append_nil _⟩
  | mismatch _ hsub hm =>
    simp only [State.exeLogged, hsub] at hl
    obtain ⟨retries, b, hr, rfl⟩ := hl
    have hn : ¬ (s.exp.toNat = 0 ∨ s.rlen.toNat = s.exp.toNat) := by rw [← lengthMatches_iff, hm]; decide
    refine ⟨[], (List.append_nil _).symm, ?_⟩
    simpa [State.exeLogged] using hr.append (.mismatch _ b _ hn .none)
  | xDelay hsub =>
    simp only [State.exeLogged, hsub] at hl
    exact ⟨_, rfl, hl⟩
  | _ => simp [*, Sub.inExe] at hs

/-- Every step from inside the EXE stays with what the EXE has logged. -/
theorem StepCase.keeps_exeSince {x y : State} {c : CatalogId} {e : Nat} (h : StepCase x y) (hx : x.sub.inExe = true)
    (hdefect : s.cfg.defect = none) (hi : ExeSince s c e x) : ExeSince s c e y := by
  obtain ⟨rfl, hframe, rfl⟩ := hi.operands hx
  obtain ⟨l, htrace, hl⟩ := hi.logged
  obtain ⟨hcmd, -, hyframe⟩ := h.keeps_frame hx
  have hcfg : y.cfg = s.cfg := h.keeps_config.1.trans hi.config
  obtain ⟨-, -, hexp⟩ := h.keeps_operands hx
  rw [← hframe] at hl
  obtain ⟨m, hm, hlm⟩ := h.exeLogged_append hx (hi.config ▸ hdefect) hl
  refine ⟨hcfg, fun _ => ⟨hcmd, ?_, by rw [hexp]⟩, l ++ m, by rw [hm, htrace, List.append_assoc], hframe ▸ hlm⟩
  rw [← hframe, ← hyframe, hcmd]

end Sys2Proof.Machine

open Sys2Proof Sys2Proof.Machine

/-- Settles O27: the two steps up to the completed send, and the two from the receive on. -/
theorem exeRetiresOnMatchingResponse : Obligations.ExeRetiresOnMatchingResponse := by
  intro s c e v sends r rs hadm hsub hf hcfg hc hsends hrecvs hcap hmatch
  have hok : s.chan.sendAnswer = .ok := by simp [Channel.sendAnswer, hsends]
  obtain ⟨x, u, hx, hu, hconfig, husub, huatt, hucmd, huexp, huvar, hutrace, hurecv, huregs⟩ :=
    exe_sends c e v hadm hsub hf hcfg hc hok
  have hr : u.received = r := by
    simp [State.received, Channel.recvAnswer, hurecv, hrecvs, hconfig.1, List.take_of_length_le hcap]
  obtain ⟨y, t, hy, ht, ⟨hpc, htsub⟩, hlen, hmatched, hevt, hcells, htrace, htregs⟩ :=
    exe_retires (hconfig.admitted hadm) husub (by rw [hr, huexp]; exact hmatch)
  rw [hr] at hlen hcells htrace
  refine ⟨t, by rw [runs_succ hx, runs_succ hu, runs_succ hy, runs_succ ht, runs], ⟨?_, htsub⟩, ?_, ?_, ?_, ?_, hlen,
    hmatched, hevt, hcells, by rw [htrace, hutrace, List.append_assoc]; rfl, (huregs.trans htregs).mono (by decide)⟩
  · rw [hpc, huregs.seqPc_eq (by decide)]
  · exact (htregs.attempts_eq (by decide)).trans huatt
  · exact (htregs.cmdsel_eq (by decide)).trans hucmd
  · rw [htregs.exp_eq (by decide), huexp]
  · exact (htregs.varsel_eq (by decide)).trans huvar

/-- Settles O30: the fetch starts the run with nothing logged, and each step inside it logs what R146 says. -/
theorem exeTraceShape : Obligations.ExeTraceShape := by
  intro s u t c e v k hadm hsub hf hstep hrun ht
  have hstart : ExeSince s c e.toNat u := by
    cases step_cases s u hstep with
    | notConfigured => exact ⟨rfl, nofun, [], (List.append_nil _).symm, trivial⟩
    | exe c' e' v' _ hf' =>
      obtain ⟨rfl, rfl, rfl⟩ : c = c' ∧ e = e' ∧ v = v' := by simpa [hf] using hf'
      have he : e.toNat ≤ 1024 := (fetched_exe s c e v hf).trans (rxcap_le _ hadm.2)
      exact ⟨rfl, fun _ => ⟨rfl, rfl, expOperand_toNat e he⟩, [], (List.append_nil _).symm, .none⟩
    | _ => simp_all  -- the fetch of another descriptor, or no fetch
  have hend : ExeSince s c e.toNat t :=
    runsInside_induction (fun x y hx hxy hi => (step_cases x y hxy).keeps_exeSince hx hadm.2 hi) hstart hrun
  obtain ⟨l, htrace, hl⟩ := hend.logged
  exact ⟨l, htrace, by simpa [State.exeLogged, ht] using hl⟩
end

section
/-! The contents of responses decide nothing (41_executor.md R139). A state is its response contents and the rest: agreement but
for content is alike contents put into the same rest. Each operation keeps agreement, each step decides on the rest alone. -/

namespace Sys2Proof.Machine

variable {s s' t : State}

/-! ### The content of a state -/

/-- Where response bytes stand: received, logged, printed, or still to be received. -/
structure Content where
  rxbuf    : Memory
  trace    : List TraceEvent
  console  : List ConsoleRecord
  receives : List (List Byte)

def State.content (s : State) : Content := ⟨s.rxbuf, s.trace, s.console, s.chan.receives⟩

def State.withContent (s : State) (k : Content) : State :=
  { s with rxbuf := k.rxbuf, trace := k.trace, console := k.console, chan := { s.chan with receives := k.receives } }

/-- Contents that differ in response bytes alone. -/
structure Content.Alike (k k' : Content) : Prop where
  cells    : ∀ i, (k.rxbuf.read i).isSome = (k'.rxbuf.read i).isSome
  trace    : k.trace.map TraceEvent.shape = k'.trace.map TraceEvent.shape
  console  : k.console.map ConsoleRecord.shape = k'.console.map ConsoleRecord.shape
  receives : k.receives.map List.length = k'.receives.map List.length

theorem agree_withContent {k : Content} (h : s.content.Alike k) : AgreeButContent s (s.withContent k) where
  cfg := rfl
  mark := rfl
  regs := fun r => by cases r <;> rfl
  cells := h.cells
  trace := h.trace
  console := h.console
  configures := rfl
  sends := rfl
  receives := h.receives
  drawn := rfl
  wire := rfl

/-! ### The fields that agree -/

theorem AgreeButContent.seqPc (h : AgreeButContent s s') : s.seqPc = s'.seqPc := reg_seqPc_inj.1 (h.regs _)
theorem AgreeButContent.sub (h : AgreeButContent s s') : s.sub = s'.sub := reg_sub_inj.1 (h.regs _)
theorem AgreeButContent.cmdsel (h : AgreeButContent s s') : s.cmdsel = s'.cmdsel := reg_cmdsel_inj.1 (h.regs _)
theorem AgreeButContent.varsel (h : AgreeButContent s s') : s.varsel = s'.varsel := reg_varsel_inj.1 (h.regs _)
theorem AgreeButContent.exp (h : AgreeButContent s s') : s.exp = s'.exp := reg_exp_inj.1 (h.regs _)
theorem AgreeButContent.rlen (h : AgreeButContent s s') : s.rlen = s'.rlen := reg_rlen_inj.1 (h.regs _)
theorem AgreeButContent.cur (h : AgreeButContent s s') : s.cur = s'.cur := h.regs .cur
theorem AgreeButContent.attempts (h : AgreeButContent s s') : s.attempts = s'.attempts := h.regs .attempts
theorem AgreeButContent.fault (h : AgreeButContent s s') : s.fault = s'.fault := reg_fault_inj.1 (h.regs _)
theorem AgreeButContent.faultPc (h : AgreeButContent s s') : s.faultPc = s'.faultPc := reg_faultPc_inj.1 (h.regs _)
theorem AgreeButContent.lastEvt (h : AgreeButContent s s') : s.lastEvt = s'.lastEvt := reg_lastEvt_inj.1 (h.regs _)
theorem AgreeButContent.chcfg (h : AgreeButContent s s') : s.chcfg = s'.chcfg := reg_chcfg_inj.1 (h.regs _)
theorem AgreeButContent.hsdone (h : AgreeButContent s s') : s.hsdone = s'.hsdone := reg_hsdone_inj.1 (h.regs _)
theorem AgreeButContent.txto (h : AgreeButContent s s') : s.txto = s'.txto := reg_txto_inj.1 (h.regs _)
theorem AgreeButContent.matched (h : AgreeButContent s s') : s.matched = s'.matched := reg_matched_inj.1 (h.regs _)

/-- States that agree are one state with alike contents: the registers determine every other field. -/
theorem AgreeButContent.eq_withContent (h : AgreeButContent s s') :
    s' = s.withContent s'.content ∧ s.content.Alike s'.content := by
  refine ⟨?_, h.cells, h.trace, h.console, h.receives⟩
  have hchan : s'.chan = ⟨s.chan.configures, s.chan.sends, s'.chan.receives, s.chan.drawn, s.chan.wire⟩ := by
    rw [h.configures, h.sends, h.drawn, h.wire]
  rw [State.withContent, State.content, ← hchan, h.cfg, h.mark, h.seqPc, h.sub, h.cmdsel, h.varsel, h.exp, h.rlen, h.cur,
    h.attempts, h.fault, h.faultPc, h.lastEvt, h.chcfg, h.hsdone, h.txto, h.matched]

/-! ### Operations keep agreement -/

/-- Equal decisions and related branches give related results. -/
theorem rel_ite {α : Type} {R : α → α → Prop} {p q : Prop} [Decidable p] [Decidable q] {a b a' b' : α} (hpq : p ↔ q)
    (ha : R a a') (hb : R b b') : R (if p then a else b) (if q then a' else b') := by
  by_cases hp : p
  · rwa [if_pos hp, if_pos (hpq.1 hp)]
  · rwa [if_neg hp, if_neg (mt hpq.2 hp)]

/-- An operation that neither reads nor writes content keeps agreement. -/
theorem AgreeButContent.map (h : AgreeButContent s s') (g : State → State)
    (hcomm : ∀ k, g (s.withContent k) = (g s).withContent k) (hcontent : (g s).content = s.content) :
    AgreeButContent (g s) (g s') := by
  obtain ⟨e, halike⟩ := h.eq_withContent
  rw [e, hcomm]
  exact agree_withContent (hcontent ▸ halike)

theorem AgreeButContent.retire (h : AgreeButContent s s') : AgreeButContent s.retire s'.retire :=
  h.map State.retire (fun _ => rfl) rfl

theorem AgreeButContent.raiseFault (h : AgreeButContent s s') (code : FaultCode) :
    AgreeButContent (s.raiseFault code) (s'.raiseFault code) :=
  h.map (·.raiseFault code) (fun _ => rfl) rfl

theorem AgreeButContent.setSub (h : AgreeButContent s s') (x : Sub) :
    AgreeButContent { s with sub := x } { s' with sub := x } :=
  h.map ({ · with sub := x }) (fun _ => rfl) rfl

theorem AgreeButContent.emit (h : AgreeButContent s s') {r r' : ConsoleRecord} (hr : r.shape = r'.shape) :
    AgreeButContent (s.emit r) (s'.emit r') :=
  { h with console := by simp [h.console, hr] }

theorem AgreeButContent.delay (h : AgreeButContent s s') (k : DelayClass) :
    AgreeButContent (s.delay k) (s'.delay k) :=
  { h with trace := by simp [h.trace] }

/-! ### The channel -/

theorem AgreeButContent.cfgAnswer (h : AgreeButContent s s') : s.chan.cfgAnswer = s'.chan.cfgAnswer := by
  simp only [Channel.cfgAnswer, h.configures, h.drawn]

theorem AgreeButContent.sendAnswer (h : AgreeButContent s s') : s.chan.sendAnswer = s'.chan.sendAnswer := by
  simp only [Channel.sendAnswer, h.sends, h.drawn]

theorem AgreeButContent.frame (h : AgreeButContent s s') (c : CatalogId) : s.frame c = s'.frame c :=
  frame_congr s' s h.cfg (h.regs .cur) c

/-- The next receive returns the same number of bytes. -/
theorem AgreeButContent.received_length (h : AgreeButContent s s') : s.received.length = s'.received.length := by
  have hr := h.receives
  unfold State.received Channel.recvAnswer
  rw [h.cfg, h.drawn]
  cases hs : s.chan.receives <;> cases hs' : s'.chan.receives <;> simp_all

theorem AgreeButContent.chConfigure (h : AgreeButContent s s') : AgreeButContent s.chConfigure s'.chConfigure :=
  { h with
    trace := by simp [h.trace, h.cfgAnswer]
    configures := by simp [h.configures]
    sends := by simp [h.sends]
    receives := by simp [h.receives]
    drawn := by simp only [chConfigure_chan, Channel.popCfg, h.configures, h.drawn]; split <;> rfl
    wire := by simp [h.wire] }

theorem AgreeButContent.chSend (h : AgreeButContent s s') (c : CatalogId) : AgreeButContent (s.chSend c) (s'.chSend c) :=
  { h with
    trace := by simp [h.trace, h.sendAnswer, h.frame]
    configures := by simp [h.configures]
    sends := by simp [h.sends]
    receives := by simp [h.receives]
    drawn := by simp only [chSend_chan, Channel.popSend, h.sends, h.drawn]; split <;> rfl
    wire := by simp [h.wire, h.sendAnswer, h.frame] }

theorem AgreeButContent.sendStep (h : AgreeButContent s s') (c : CatalogId) (onOk onTimeout : Sub) :
    AgreeButContent (s.sendStep c onOk onTimeout) (s'.sendStep c onOk onTimeout) := by
  have hsent := h.chSend c
  unfold State.sendStep
  rw [h.sendAnswer]
  split
  · exact hsent.map ({ · with txto := false, sub := onOk }) (fun _ => rfl) rfl
  · exact (hsent.emit rfl).map ({ · with txto := true, lastEvt := .txTimeout, sub := onTimeout })
      (fun _ => rfl) rfl

theorem AgreeButContent.attempt (h : AgreeButContent s s') (c : CatalogId) (onOk onTimeout : Sub) :
    AgreeButContent (s.attempt c onOk onTimeout) (s'.attempt c onOk onTimeout) := by
  unfold State.attempt
  rw [h.cfg, h.attempts]
  split
  · exact h.raiseFault _
  · exact (h.sendStep c onOk onTimeout).map ({ · with attempts := countAttempt s'.attempts }) (fun _ => rfl) rfl

theorem AgreeButContent.chReceive (h : AgreeButContent s s') : AgreeButContent s.chReceive s'.chReceive :=
  { h with
    regs := fun r => by
      have hr := h.regs r
      cases r
      case rlen => simp [State.reg, h.received_length]
      all_goals exact hr
    cells := fun i => Bool.eq_iff_iff.2 (by simp [h.received_length])
    trace := by simp [h.trace, h.received_length, TraceEvent.shape]
    configures := by simp [h.configures]
    sends := by simp [h.sends]
    receives := by simp [h.receives]
    drawn := by
      have hr := h.receives
      simp only [chReceive_chan, Channel.popRecv]
      cases hs : s.chan.receives <;> cases hs' : s'.chan.receives <;> simp_all [h.drawn]
    wire := by simp [h.wire] }

/-! ### Reads and prints -/

theorem AgreeButContent.rxRead_isSome (h : AgreeButContent s s') (i : Nat) :
    (s.rxRead i).isSome = (s'.rxRead i).isSome := by
  rw [State.rxRead, State.rxRead, h.rlen]
  split
  · exact h.cells i
  · rfl

/-- A range reads in both states, with the same number of bytes, or in neither. -/
theorem AgreeButContent.rxReadRange (h : AgreeButContent s s') (lo n : Nat) :
    Option.Rel (fun b b' => b.length = b'.length) (s.rxReadRange lo n) (s'.rxReadRange lo n) := by
  have hiff : (s.rxReadRange lo n).isSome = true ↔ (s'.rxReadRange lo n).isSome = true := by
    simp only [rxReadRange_isSome, h.rxRead_isSome]
  cases hb : s.rxReadRange lo n with
  | none =>
    cases hb' : s'.rxReadRange lo n with
    | none => exact .none
    | some b' => simp [hb, hb'] at hiff
  | some b =>
    cases hb' : s'.rxReadRange lo n with
    | none => simp [hb, hb'] at hiff
    | some b' => exact .some ((rxReadRange_length _ _ _ _ hb).trans (rxReadRange_length _ _ _ _ hb').symm)

theorem AgreeButContent.printVerbose (h : AgreeButContent s s') (ok : Bool) :
    Option.Rel AgreeButContent (printVerbose s ok) (printVerbose s' ok) := by
  unfold Machine.printVerbose
  rw [h.rlen, h.exp]
  match s.rxReadRange 0 s'.rlen.toNat, s'.rxReadRange 0 s'.rlen.toNat, h.rxReadRange 0 s'.rlen.toNat with
  | none, none, .none => exact .none
  | some b, some b', .some hlen =>
    exact .some (((h.emit rfl).emit (by simp [ConsoleRecord.shape, hlen])).emit rfl)

theorem AgreeButContent.printSilent (h : AgreeButContent s s') :
    Option.Rel AgreeButContent (printSilent s) (printSilent s') := by
  unfold Machine.printSilent
  rw [h.cfg, h.rlen]
  match s.rxReadRange _ _, s'.rxReadRange _ _, h.rxReadRange s'.cfg.hOff (silentCount s'.cfg.hOff s'.rlen.toNat) with
  | none, none, .none => exact .none
  | some b, some b', .some hlen => exact .some (h.emit (by simp [ConsoleRecord.shape, hlen]))

theorem AgreeButContent.printMatch (h : AgreeButContent s s') (ok : Bool) :
    Option.Rel AgreeButContent (printMatch s ok) (printMatch s' ok) := by
  unfold Machine.printMatch
  rw [h.varsel]
  split
  · exact h.printVerbose _
  · exact h.printSilent
  · exact .some h

theorem AgreeButContent.matchEnd (h : AgreeButContent s s') (ok : Bool) :
    AgreeButContent (matchEnd s ok) (matchEnd s' ok) := by
  cases ok with
  | true => exact h.map (fun x => Machine.matchEnd x true) (fun _ => rfl) rfl
  | false => exact h.map (fun x => Machine.matchEnd x false) (fun _ => rfl) rfl

/-! ### Steps keep agreement -/

/-- Next states that agree, or the same stop. -/
inductive OutcomesAgree : Host.Outcome State Fault Refusal → Host.Outcome State Fault Refusal → Prop where
  | next {s s' : State} : AgreeButContent s s' → OutcomesAgree (.next s) (.next s')
  | fault (r : Fault) : OutcomesAgree (.fault r) (.fault r)
  | refused (r : Refusal) : OutcomesAgree (.refused r) (.refused r)

theorem AgreeButContent.execCfg (h : AgreeButContent s s') : OutcomesAgree (execCfg s) (execCfg s') := by
  unfold Machine.execCfg
  rw [h.chcfg, h.cfgAnswer]
  refine .next ?_
  split
  · exact h.raiseFault _
  · split
    · exact h.chConfigure.raiseFault _
    · exact (h.chConfigure.map ({ · with chcfg := true }) (fun _ => rfl) rfl).retire

theorem AgreeButContent.execHsk (h : AgreeButContent s s') : OutcomesAgree (execHsk s) (execHsk s') :=
  .next (rel_ite (by rw [h.chcfg]) (h.raiseFault _)
    (h.map ({ · with exp := BitVec.ofNat 11 hsAckLen, attempts := 0, sub := .hMagic }) (fun _ => rfl) rfl))

theorem AgreeButContent.execExe (h : AgreeButContent s s') (c : CatalogId) (e : BitVec 16) (v : Variant) :
    OutcomesAgree (execExe c e v s) (execExe c e v s') :=
  rel_ite (by rw [h.chcfg]) (.next (h.raiseFault _)) <| rel_ite Iff.rfl (.refused _) <| .next <|
    h.map ({ · with cmdsel := c, exp := expOperand e, varsel := v, attempts := 0, sub := .xSend }) (fun _ => rfl) rfl

theorem AgreeButContent.exec (h : AgreeButContent s s') (i : Instr) : OutcomesAgree (exec i s) (exec i s') := by
  cases i with
  | cfg => exact h.execCfg
  | dly k => exact .next (h.delay k).retire
  | hsk => exact h.execHsk
  | exe c e v => exact h.execExe c e v
  | adv =>
    exact .next ((h.map (fun x => { x with cur := x.cur + x.cfg.stride }) (fun _ => rfl) rfl).retire)
  | jmp j => exact .next (h.map ({ · with seqPc := targetOperand j, sub := .fetch }) (fun _ => rfl) rfl)
  | stop => exact .next (h.setSub .halted)

theorem AgreeButContent.fetchStep (h : AgreeButContent s s') : OutcomesAgree (fetchStep s) (fetchStep s') := by
  unfold Machine.fetchStep State.fetchWord
  rw [h.cfg, h.seqPc]
  split
  · exact .next (h.raiseFault _)
  · split
    · exact .next (h.raiseFault _)
    · exact h.exec _

theorem AgreeButContent.xMatch (h : AgreeButContent s s') : OutcomesAgree (xMatch s) (xMatch s') := by
  unfold Machine.xMatch
  rw [h.rlen, h.exp]
  generalize lengthMatches s'.rlen s'.exp = ok
  have hprint := h.printMatch ok
  generalize Machine.printMatch s ok = o, Machine.printMatch s' ok = o' at hprint ⊢
  cases hprint with
  | none => exact .fault _
  | some hu => exact .next (hu.matchEnd _)

theorem AgreeButContent.handshakeEnd (h : AgreeButContent s s') : AgreeButContent (handshakeEnd s) (handshakeEnd s') :=
  rel_ite (by rw [h.rlen])
    (h.map (fun x => { x with matched := true, hsdone := true, lastEvt := .hsAck }.retire) (fun _ => rfl) rfl)
    (h.map ({ · with matched := false, lastEvt := .hsNotReady, sub := .hDelay }) (fun _ => rfl) rfl)

theorem AgreeButContent.subStep (h : AgreeButContent s s') : OutcomesAgree (subStep s) (subStep s') := by
  unfold Machine.subStep
  rw [h.sub]
  split
  · exact h.fetchStep
  · unfold xSend
    rw [h.cmdsel]
    exact .next (h.attempt _ _ _)
  · exact .next (h.chReceive.setSub _)
  · exact h.xMatch
  · exact .next ((h.delay _).setSub _)
  · exact .next (h.attempt _ _ _)
  · exact .next (h.sendStep _ _ _)
  · exact .next h.chReceive.handshakeEnd
  · exact .next ((h.delay _).setSub _)
  · exact .fault _
  · rw [h.fault]
    exact .fault _

theorem AgreeButContent.step (h : AgreeButContent s s') : OutcomesAgree (step s) (step s') := by
  unfold Machine.step admittedStep
  rw [h.mark]
  split
  · exact .refused _
  · exact h.subStep

end Sys2Proof.Machine

open Sys2Proof Sys2Proof.Machine

/-- Settles O52: a step takes agreeing states to agreeing outcomes, sub-state by sub-state. -/
theorem contentDecidesNothing : Obligations.ContentDecidesNothing := by
  intro s s' t h hstep
  have hagree := h.step
  rw [hstep] at hagree
  cases hs' : step s' with
  | next t' =>
    rw [hs'] at hagree
    cases hagree with
    | next ht => exact ⟨t', rfl, ht⟩
  | fault r => rw [hs'] at hagree; cases hagree
  | refused r => rw [hs'] at hagree; cases hagree
end

section
/-! The FETCH step (42_sequencer.md R161, R205) and the placement of a word before it, then the contracts of the operations that
complete in it: CFG, DLY, ADV, JMP, STOP (R165 to R180). -/

namespace Sys2Proof

/-! ### The placed word -/

theorem placeWord_length (rom : List Word) (i : Nat) (w : Word) :
    (Machine.placeWord rom i w).length = max rom.length (i + 1) := by
  simp only [Machine.placeWord, List.length_set, List.length_append, List.length_replicate]
  omega

theorem placeWord_getElem? (rom : List Word) (i : Nat) (w : Word) : (Machine.placeWord rom i w)[i]? = some w := by
  have hlen := placeWord_length rom i w
  rw [Machine.placeWord, List.length_set] at hlen
  exact List.getElem?_set_self (by omega)

/-- The check reads the ROM's length alone: another ROM of a legal length is admitted too (R87 item 6). -/
theorem defect_of_rom (g : Config) (rom : List Word) (h : g.defect = none) (hrom : 1 ≤ rom.length ∧ rom.length ≤ 255) :
    ({ g with seqRom := rom } : Config).defect = none := by
  rw [defect_eq_none_iff] at h ⊢
  obtain ⟨hsum, hframes, hmagic, haddr, hdecl, -, hrest⟩ := h
  exact ⟨hsum, hframes, hmagic, haddr, hdecl, hrom, hrest⟩

namespace Machine

variable {s t : State}

theorem fetchIndex_lt (s : State) : (fetchIndex s).toNat < 255 := by
  unfold fetchIndex
  split
  · assumption
  · decide

theorem withFetchWord_fetchWord (s : State) (w : Word) : (s.withFetchWord 32 w.toNat).fetchWord = some w := by
  have hw : BitVec.ofNat 32 (w.toNat % 2 ^ 32) = w := by rw [Nat.mod_eq_of_lt w.isLt, BitVec.ofNat_toNat, BitVec.setWidth_eq]
  simp only [State.fetchWord, State.withFetchWord, hw]
  exact placeWord_getElem? _ _ _

/-- The placed ROM has a legal length wherever the ROM had one: FETCH reads below index 255. -/
theorem withFetchWord_admitted (hmark : s.refused = none) (hdefect : s.cfg.defect = none) (w : Word) :
    (s.withFetchWord 32 w.toNat).admitted := by
  obtain ⟨-, -, hrom, -⟩ := admitted_bounds _ hdefect
  have hindex := fetchIndex_lt s
  refine ⟨hmark, defect_of_rom s.cfg _ hdefect ?_⟩
  rw [placeWord_length]
  rw [Config.romLen] at hrom
  omega

/-! ### FETCH -/

theorem fetched_of_decode {w : Word} {i : Instr} (hw : s.fetchWord = some w)
    (hd : decode s.cfg.rxcap s.cfg.romLen w = .instr i) : s.fetched = some i := by
  simp [State.fetched, hw, hd, Decoded.instr?]

theorem step_of_fetched {i : Instr} (hmark : s.refused = none) (hsub : s.sub = .fetch) (hf : s.fetched = some i) :
    step s = exec i s := by
  rw [step_unmarked s hmark, subStep, hsub]
  exact fetchStep_fetched s i hf

/-! ### Frames -/

/-- No event: the configuration, both streams and the channel are as they were. -/
theorem tracesOnly_nil (hconfig : keepsConfig s t) (hconsole : t.console = s.console) (hchan : t.chan = s.chan)
    (htrace : t.trace = s.trace) : tracesOnly [] s t :=
  ⟨hconfig, hconsole, hchan, by rw [htrace, List.append_nil]⟩

theorem retire_keepsRegs (s : State) : keepsRegs [.seqPc, .sub] s s.retire :=
  keepsRegs_of fun r => by cases r <;> simp [State.reg]

theorem delay_keepsRegs (s : State) (k : DelayClass) : keepsRegs [] s (s.delay k) :=
  keepsRegs_of fun r => by cases r <;> simp [State.reg]

theorem chConfigure_keepsRegs (s : State) : keepsRegs [] s s.chConfigure :=
  keepsRegs_of fun r => by cases r <;> simp [State.reg]

/-! ### CFG (R165) -/

theorem execCfg_of_configured (h : s.chcfg = true) : exec .cfg s = .next (s.raiseFault .reconfig) := by
  simp [exec, execCfg, h]

theorem execCfg_of_fail (h : s.chcfg = false) (ha : s.chan.cfgAnswer = .fail) :
    exec .cfg s = .next (s.chConfigure.raiseFault .configFatal) := by
  simp [exec, execCfg, h, ha]

theorem execCfg_of_ok (h : s.chcfg = false) (ha : s.chan.cfgAnswer = .ok) :
    exec .cfg s = .next { s.chConfigure with chcfg := true }.retire := by
  simp [exec, execCfg, h, ha]

end Machine

end Sys2Proof

open Sys2Proof Sys2Proof.Machine

/-- Settles O6: a word that decodes is fetched, and the step is then its operation. -/
theorem stepRunsDecoded : Obligations.StepRunsDecoded :=
  fun _ _ _ hmark hsub hw hd => step_of_fetched hmark hsub (fetched_of_decode hw hd)

/-- Settles O7: the placed word is the one FETCH reads, in a ROM of a legal length. -/
theorem placedWordRuns : Obligations.PlacedWordRuns := fun s w _ hmark hd =>
  ⟨step_of_fetched hmark rfl (fetched_of_decode (withFetchWord_fetchWord s w) hd),
    fun hdefect => withFetchWord_admitted hmark hdefect w⟩

/-- Settles O8: past the last word there is no word to fetch. -/
theorem overrunFaults : Obligations.OverrunFaults := by
  intro s hmark hsub hpc
  have hword : s.fetchWord = none := List.getElem?_eq_none hpc
  have hstep : step s = .next (s.raiseFault .seqOverrun) := by
    rw [step_unmarked s hmark, subStep, hsub]
    simp [fetchStep, hword]
  exact ⟨_, hstep, raiseFault_faultEntry s _⟩

/-- Settles O10: the three ways of `execCfg`; the two that configure share the channel's frame. -/
theorem cfgFollowsItsRule : Obligations.CfgFollowsItsRule := by
  refine fun s => ⟨fun hcfg => ?reconfig, fun hcfg hfail => ?fatal, fun hcfg hok => ?configured⟩
  case reconfig => exact ⟨_, execCfg_of_configured hcfg, raiseFault_faultEntry s _⟩
  case fatal =>
    obtain ⟨-, -, -, hregs, -⟩ := raiseFault_faultEntry s.chConfigure .configFatal
    exact ⟨_, execCfg_of_fail hcfg hfail, rfl, rfl, rfl, (chConfigure_keepsRegs s).trans hregs, fun _ => rfl,
      by simp [hfail], ⟨rfl, rfl⟩, rfl, popCfg_configures _, popCfg_sends _, popCfg_receives _, popCfg_wire _⟩
  case configured =>
    refine ⟨_, execCfg_of_ok hcfg hok, ⟨rfl, rfl⟩, rfl, keepsRegs_of fun r => ?_, fun _ => rfl,
      by simp [hok], ⟨rfl, rfl⟩, rfl, popCfg_configures _, popCfg_sends _, popCfg_receives _, popCfg_wire _⟩
    cases r <;> simp [State.reg]

/-- Settles O11: a delay is one event, and retirement writes `SEQ_PC` and `SUB`. -/
theorem dlyDelays : Obligations.DlyDelays := fun s k =>
  ⟨(s.delay k).retire, rfl, ⟨rfl, rfl⟩, (delay_keepsRegs s k).trans (retire_keepsRegs _), fun _ => rfl,
    ⟨rfl, rfl⟩, rfl, rfl, rfl⟩

/-- Settles O12: word addition is addition modulo 2^32. -/
theorem advAddsStride : Obligations.AdvAddsStride := by
  refine fun s => ⟨{ s with cur := s.cur + s.cfg.stride }.retire, rfl, ⟨rfl, rfl⟩, BitVec.toNat_add _ _,
    keepsRegs_of fun r => ?_, fun _ => rfl, tracesOnly_nil ⟨rfl, rfl⟩ rfl rfl rfl⟩
  cases r <;> simp [State.reg]

/-- Settles O13: a target below a legal `ROM_LEN` fits `SEQ_PC`. -/
theorem jmpJumps : Obligations.JmpJumps := by
  refine fun s j hj hrom => ⟨{ s with seqPc := targetOperand j, sub := .fetch }, rfl,
    targetOperand_toNat j (by omega), rfl, keepsRegs_of fun r => ?_, fun _ => rfl, tracesOnly_nil ⟨rfl, rfl⟩ rfl rfl rfl⟩
  cases r <;> simp [State.reg]

/-- Settles O14: STOP writes `SUB` alone. -/
theorem stopHalts : Obligations.StopHalts := by
  refine fun s => ⟨{ s with sub := .halted }, rfl, rfl, keepsRegs_of fun r => ?_, fun _ => rfl,
    tracesOnly_nil ⟨rfl, rfl⟩ rfl rfl rfl⟩
  cases r <;> simp [State.reg]
end

section
/-! The contract of each step of HSK (42_sequencer.md R170 to R173). -/

namespace Sys2Proof.Machine

variable {s t : State}

/-! ### The send that counts nothing -/

/-- A send step: the frame is sent, and the channel's answer chooses where it goes on (R132, R171). -/
theorem sendStep_contract (s : State) (c : CatalogId) (onOk onTimeout : Sub) (ht : s.sendStep c onOk onTimeout = t) :
    Sent c s t ∧ keepsRxbuf s t ∧
      (s.chan.sendAnswer = .ok → t.sub = onOk ∧ t.txto = false ∧ t.console = s.console ∧
        keepsRegs [.sub, .txto] s t) ∧
      (∀ k, s.chan.sendAnswer = .timeout k → t.sub = onTimeout ∧ t.txto = true ∧ t.lastEvt = .txTimeout ∧
        t.console = s.console ++ [.txTimeout c] ∧ keepsRegs [.sub, .txto, .lastEvt] s t) := by
  subst ht
  obtain ⟨hsent, hrx⟩ := sendStep_sent s c onOk onTimeout
  refine ⟨hsent, hrx, fun hok => ?ok, fun k htimeout => ?timeout⟩
  case ok =>
    rw [sendStep_of_ok s c _ _ hok]
    exact ⟨rfl, rfl, rfl, keepsRegs_of fun r => by cases r <;> simp [State.reg]⟩
  case timeout =>
    rw [sendStep_of_timeout s c _ _ k htimeout]
    exact ⟨rfl, rfl, rfl, rfl, keepsRegs_of fun r => by cases r <;> simp [State.reg]⟩

/-! ### The end of the receive -/

theorem handshakeEnd_of_accepted (h : s.rlen.toNat = 12) :
    handshakeEnd s = { s with matched := true, hsdone := true, lastEvt := .hsAck }.retire := by
  rw [handshakeEnd, if_pos ((handshakeAccepts_iff _).2 h)]

theorem handshakeEnd_of_not_accepted (h : s.rlen.toNat ≠ 12) :
    handshakeEnd s = { s with matched := false, lastEvt := .hsNotReady, sub := .hDelay } := by
  rw [handshakeEnd, if_neg (mt (handshakeAccepts_iff _).1 h)]

/-- The end writes flags, `LAST_EVT`, `SEQ_PC` and `SUB`: what was received stays received. -/
theorem handshakeEnd_received (h : Received s t) : Received s (handshakeEnd t) := by
  unfold handshakeEnd
  split <;> exact h

end Sys2Proof.Machine

open Sys2Proof Sys2Proof.Machine

/-- Settles O15: the two ways of `execHsk`. -/
theorem hskStarts : Obligations.HskStarts := by
  refine fun s => ⟨fun hcfg => ?unconfigured, fun hcfg => ?starts⟩
  case unconfigured => exact ⟨s.raiseFault .notConfigured, by simp [exec, execHsk, hcfg], raiseFault_faultEntry s _⟩
  case starts =>
    refine ⟨{ s with exp := BitVec.ofNat 11 hsAckLen, attempts := 0, sub := .hMagic }, by simp [exec, execHsk, hcfg],
      rfl, rfl, rfl, keepsRegs_of fun r => ?_, fun _ => rfl, tracesOnly_nil ⟨rfl, rfl⟩ rfl rfl rfl⟩
    cases r <;> simp [State.reg]

/-- Settles O16: H_MAGIC is an attempt of the magic, H_REQ a send of the request. -/
theorem handshakeSendSteps : Obligations.HandshakeSendSteps := by
  intro s hmark
  refine ⟨fun hsub hx => ?exhausted, fun hsub hx => ?magic, fun hsub => ?request⟩
  case exhausted =>
    refine ⟨_, ?_, raiseFault_faultEntry s _⟩
    rw [step_unmarked s hmark, subStep, hsub, hMagic, attempt_of_exhausted s _ _ _ hx]
  case magic =>
    exact ⟨_, by rw [step_unmarked s hmark, subStep, hsub, hMagic], attempt_contract s _ _ _ hx rfl⟩
  case request =>
    exact ⟨_, by rw [step_unmarked s hmark, subStep, hsub, hReq], sendStep_contract s _ _ _ rfl⟩

/-- Settles O17: H_RECV is a receive, and the number of bytes alone chooses its end. -/
theorem handshakeReceiveStep : Obligations.HandshakeReceiveStep := by
  intro s hadm hsub
  obtain ⟨hmark, hdefect⟩ := hadm
  have hstep : step s = .next (handshakeEnd s.chReceive) := by rw [step_unmarked s hmark, subStep, hsub, hRecv]
  have hlen : s.chReceive.rlen.toNat = s.received.length := received_toNat s hdefect
  refine ⟨_, hstep, handshakeEnd_received (chReceive_received s hdefect).1, fun h12 => ?accepted, fun hne => ?notReady⟩
  case accepted =>
    rw [handshakeEnd_of_accepted (hlen.trans h12)]
    exact ⟨⟨rfl, rfl⟩, rfl, rfl, rfl, keepsRegs_of fun r => by cases r <;> simp [State.reg]⟩
  case notReady =>
    rw [handshakeEnd_of_not_accepted (by rwa [hlen])]
    exact ⟨rfl, rfl, rfl, keepsRegs_of fun r => by cases r <;> simp [State.reg]⟩

/-- Settles O18: H_DELAY logs the delay and writes `SUB`. -/
theorem handshakeDelayStep : Obligations.HandshakeDelayStep := by
  intro s hmark hsub
  have hstep : step s = .next { s.delay .hsRetry with sub := .hMagic } := by
    rw [step_unmarked s hmark, subStep, hsub, hDelay]
  refine ⟨_, hstep, rfl, keepsRegs_of fun r => ?_, fun _ => rfl, ⟨rfl, rfl⟩, rfl, rfl, rfl⟩
  cases r <;> simp [State.reg]
end

section
/-! The four steps of a handshake whose acknowledgment waits (42_sequencer.md R175, scenario A): two up to the magic, two from the
request to the retirement. -/

namespace Sys2Proof.Machine

variable {s : State}

/-- HSK whose magic is sent stands at H_REQ after two steps, one attempt counted (R170, R171). -/
theorem hsk_sendsMagic (hadm : s.admitted) (hsub : s.sub = .fetch) (hf : s.fetched = some .hsk)
    (hcfg : s.chcfg = true) (hok : s.chan.sendAnswer = .ok) :
    ∃ x u, step s = .next x ∧ step x = .next u ∧ keepsConfig s u ∧ u.sub = .hReq ∧ u.attempts = 1 ∧
      u.trace = s.trace ++ [.send .magic (s.frame .magic) .ok] ∧ u.chan.sends = s.chan.sends.tail ∧
      u.chan.receives = s.chan.receives ∧ keepsRegs [.exp, .attempts, .txto, .sub] s u := by
  obtain ⟨x, hx, -, hxatt, hxsub, hxregs, -, ⟨hxcfg, hxmark⟩, -, hxchan, hxtrace⟩ := (hskStarts s).2 hcfg
  have hbelow : ¬ (x.cfg.maxAttempts ≠ 0 ∧ x.attempts = x.cfg.maxAttempts) := fun h => h.1 (h.2.symm.trans hxatt)
  obtain ⟨-, hmagic, -⟩ := handshakeSendSteps x (hxmark.trans hadm.1)
  obtain ⟨u, hu, ⟨⟨hucfg, humark⟩, hutrace, -, husends, hurecv, -⟩, -, huatt, huok, -⟩ := hmagic hxsub hbelow
  obtain ⟨husub, -, -, huregs⟩ := huok (hxchan ▸ hok)
  have hframe : x.frame .magic = s.frame .magic := frame_congr s x hxcfg (hxregs.cur_eq (by decide)) _
  have hresult : x.chan.sendAnswer.result = .ok := by rw [hxchan, hok]; rfl
  refine ⟨x, u, (step_of_fetched hadm.1 hsub hf).trans hx, hu, ⟨hucfg.trans hxcfg, humark.trans hxmark⟩, husub, ?_, ?_,
    by rw [husends, hxchan], by rw [hurecv, hxchan], (hxregs.trans huregs).mono (by decide)⟩
  · exact BitVec.eq_of_toNat_eq (by rw [huatt, hxatt]; rfl)
  · rw [hutrace, hxtrace, hframe, hresult, List.append_nil]

/-- A pending response within the capacity is what the next receive returns (R114). -/
theorem received_of_pending {r : List Byte} {rs : List (List Byte)} (h : s.chan.receives = r :: rs)
    (hcap : r.length ≤ s.cfg.rxcap) : s.received = r := by
  simp [State.received, Channel.recvAnswer, h, List.take_of_length_le hcap]

/-- HSK at H_REQ retires in two steps where the request is sent and 12 bytes answer it (R171, R172). -/
theorem hsk_retires {r : List Byte} {rs : List (List Byte)} (hadm : s.admitted) (hsub : s.sub = .hReq)
    (hok : s.chan.sendAnswer = .ok) (hrecvs : s.chan.receives = r :: rs) (h12 : r.length = 12)
    (hcap : 12 ≤ s.cfg.rxcap) :
    ∃ x t, step s = .next x ∧ step x = .next t ∧ Retired s t ∧ t.rlen.toNat = 12 ∧ t.hsdone = true ∧ t.matched = true ∧
      t.lastEvt = .hsAck ∧ (∀ i, t.rxbuf.read i = r[i]?) ∧
      t.trace = s.trace ++ [.send .handshake (s.frame .handshake) .ok, .recv 12 r] ∧
      keepsRegs [.txto, .rlen, .matched, .hsdone, .lastEvt, .seqPc, .sub] s t := by
  obtain ⟨-, -, hrequest⟩ := handshakeSendSteps s hadm.1
  obtain ⟨x, hx, ⟨hxconfig, hxtrace, -, -, hxrecv, -⟩, -, hxok, -⟩ := hrequest hsub
  obtain ⟨hxsub, -, -, hxregs⟩ := hxok hok
  have hr : x.received = r := received_of_pending (hxrecv.trans hrecvs) (by rw [hxconfig.1, h12]; exact hcap)
  have hresult : s.chan.sendAnswer.result = .ok := by rw [hok]; rfl
  obtain ⟨t, ht, ⟨-, -, htlen, htcells, httrace, -⟩, hack, -⟩ :=
    handshakeReceiveStep x (hxconfig.admitted hadm) hxsub
  rw [hr] at htlen htcells httrace hack
  obtain ⟨⟨htpc, htsub⟩, htmatched, htdone, htevt, htregs⟩ := hack h12
  refine ⟨x, t, hx, ht, ⟨?_, htsub⟩, htlen.trans h12, htdone, htmatched, htevt, htcells, ?_,
    (hxregs.trans htregs).mono (by decide)⟩
  · rw [htpc, hxregs.seqPc_eq (by decide)]
  · rw [httrace, hxtrace, hresult, h12, List.append_assoc]; rfl

end Sys2Proof.Machine

open Sys2Proof Sys2Proof.Machine

/-- Settles O19: the two steps up to the magic, and the two from the request on. -/
theorem hskRetiresOnAck : Obligations.HskRetiresOnAck := by
  intro s sends r rs hadm hsub hf hcfg hsends hrecvs h12 hcap
  have hok : s.chan.sendAnswer = .ok := by simp [Channel.sendAnswer, hsends]
  obtain ⟨x, u, hx, hu, hconfig, husub, huatt, hutrace, husends, hurecv, huregs⟩ :=
    hsk_sendsMagic hadm hsub hf hcfg hok
  have huok : u.chan.sendAnswer = .ok := by simp [Channel.sendAnswer, husends, hsends]
  obtain ⟨y, t, hy, ht, ⟨hpc, htsub⟩, hlen, hdone, hmatched, hevt, hcells, htrace, htregs⟩ :=
    hsk_retires (hconfig.admitted hadm) husub huok (hurecv.trans hrecvs) h12 (by rwa [hconfig.1])
  have hframe : u.frame .handshake = s.frame .handshake := frame_congr s u hconfig.1 (huregs.cur_eq (by decide)) _
  refine ⟨t, by rw [runs_succ hx, runs_succ hu, runs_succ hy, runs_succ ht, runs], ⟨?_, htsub⟩, ?_, hlen, hdone,
    hmatched, hevt, hcells, ?_, (huregs.trans htregs).mono (by decide)⟩
  · rw [hpc, huregs.seqPc_eq (by decide)]
  · exact (htregs.attempts_eq (by decide)).trans huatt
  · rw [htrace, hutrace, hframe, List.append_assoc]; rfl
end

section
/-! The shape of what any run of one HSK appends to `TRACE`, from its fetch to its retirement (42_sequencer.md R174). -/

namespace Sys2Proof.Machine

variable {s t : State}

theorem HskRetries.append {m h} {l l' : List TraceEvent} (hl : HskRetries m h l) (hl' : HskRetries m h l') :
    HskRetries m h (l ++ l') := by
  induction hl with
  | none => exact hl'
  | magicTimeout rest _ ih => exact .magicTimeout _ ih
  | requestTimeout rest _ ih => exact .requestTimeout _ ih
  | notReady n b rest hn _ ih => exact .notReady n b _ hn ih

/-- What an HSK of the two frames `m` and `h` has appended to `TRACE` when it stands at `x.sub`. -/
def State.hskLogged (x : State) (m h : List Byte) (l : List TraceEvent) : Prop :=
  match x.sub with
  | .hMagic => HskRetries m h l
  | .hReq => ∃ retries, HskRetries m h retries ∧ l = retries ++ [.send .magic m .ok]
  | .hRecv => ∃ retries, HskRetries m h retries ∧ l = retries ++ [.send .magic m .ok, .send .handshake h .ok]
  | .hDelay => HskRetries m h (l ++ [.delay .hsRetry])
  | .fetch => HskTrace m h l
  | .xSend | .xRecv | .xMatch | .xDelay | .halted | .faulted => True

/-- `x` stands in a run of the HSK that `s` fetched: its frames are those of `s`, and it has logged what its sub-state says. -/
structure HskSince (s x : State) : Prop where
  config : x.cfg = s.cfg
  cursor : x.cur = s.cur
  logged : ∃ l, x.trace = s.trace ++ l ∧ x.hskLogged (s.frame .magic) (s.frame .handshake) l

/-- One step of a running HSK appends what leads from its sub-state to the next (R171 to R173). -/
theorem StepCase.hskLogged_append (h : StepCase s t) (hs : s.sub.inHsk = true) (hdefect : s.cfg.defect = none)
    {l : List TraceEvent} (hl : s.hskLogged (s.frame .magic) (s.frame .handshake) l) :
    ∃ l', t.trace = s.trace ++ l' ∧ t.hskLogged (s.frame .magic) (s.frame .handshake) (l ++ l') := by
  have hlen : s.chReceive.rlen.toNat = s.received.length := received_toNat s hdefect
  cases h with
  | exhausted => exact ⟨[], (List.append_nil _).symm, trivial⟩
  | hMagicOk hsub _ hok =>
    simp only [State.hskLogged, hsub] at hl
    exact ⟨_, rfl, l, hl, by rw [hok]⟩
  | hMagicTimeout hsub _ htimeout =>
    simp only [State.hskLogged, hsub] at hl
    refine ⟨_, rfl, ?_⟩
    rw [htimeout]
    exact hl.append (.magicTimeout _ .none)
  | hReqOk hsub hok =>
    simp only [State.hskLogged, hsub] at hl
    obtain ⟨retries, hr, rfl⟩ := hl
    exact ⟨_, rfl, retries, hr, by simp [hok]⟩
  | hReqTimeout hsub htimeout =>
    simp only [State.hskLogged, hsub] at hl
    obtain ⟨retries, hr, rfl⟩ := hl
    refine ⟨_, rfl, ?_⟩
    simpa [State.hskLogged, htimeout] using hr.append (.requestTimeout _ .none)
  | acknowledged hsub hack =>
    simp only [State.hskLogged, hsub] at hl
    obtain ⟨retries, hr, rfl⟩ := hl
    have h12 : s.received.length = hsAckLen := hlen.symm.trans ((handshakeAccepts_iff _).1 hack)
    exact ⟨_, rfl, retries, s.received, hr, by simp [h12]⟩
  | notReady hsub hack =>
    simp only [State.hskLogged, hsub] at hl
    obtain ⟨retries, hr, rfl⟩ := hl
    have hne : s.received.length ≠ hsAckLen := by rw [← hlen, ne_eq, ← handshakeAccepts_iff, hack]; decide
    refine ⟨_, rfl, ?_⟩
    simpa [State.hskLogged] using hr.append (.notReady _ s.received _ hne .none)
  | hDelay hsub =>
    simp only [State.hskLogged, hsub] at hl
    exact ⟨_, rfl, hl⟩
  | _ => simp [*, Sub.inHsk] at hs

/-- Every step from inside the HSK stays with what the HSK has logged: no step of it writes `CUR`. -/
theorem StepCase.keeps_hskSince {x y : State} (h : StepCase x y) (hx : x.sub.inHsk = true) (hdefect : s.cfg.defect = none)
    (hi : HskSince s x) : HskSince s y := by
  obtain ⟨hcfg, hcur, l, htrace, hl⟩ := hi
  have hycur : y.cur = x.cur := h.cur_cases.resolve_right fun ⟨hsub, _⟩ => by simp [hsub, Sub.inHsk] at hx
  have hframe : ∀ c, x.frame c = s.frame c := frame_congr s x hcfg hcur
  rw [← hframe, ← hframe] at hl
  obtain ⟨l', hl', hll'⟩ := h.hskLogged_append hx (hcfg ▸ hdefect) hl
  rw [hframe, hframe] at hll'
  exact ⟨h.keeps_config.1.trans hcfg, hycur.trans hcur, l ++ l', by rw [hl', htrace, List.append_assoc], hll'⟩

end Sys2Proof.Machine

open Sys2Proof Sys2Proof.Machine

/-- Settles O31: the fetch starts the run with nothing logged, and each step inside it logs what R174 says. -/
theorem hskTraceShape : Obligations.HskTraceShape := by
  intro s u t k hadm hsub hf hstep hrun ht
  have hstart : HskSince s u := by
    cases step_cases s u hstep with
    | notConfigured => exact ⟨rfl, rfl, [], (List.append_nil _).symm, trivial⟩
    | hsk => exact ⟨rfl, rfl, [], (List.append_nil _).symm, .none⟩
    | _ => simp_all  -- the fetch of another descriptor, or no fetch
  have hend : HskSince s t :=
    runsInside_induction (fun x y hx hxy hi => (step_cases x y hxy).keeps_hskSince hx hadm.2 hi) hstart hrun
  obtain ⟨l, htrace, hl⟩ := hend.logged
  exact ⟨l, htrace, by simpa [State.hskLogged, ht] using hl⟩
end

section
/-! The whole sequencer: the cursor over any run (42_sequencer.md R188), the terminal sub-states (R163) and that every
other state of a run has its step (R182). -/

namespace Sys2Proof.Machine

variable {s t : State}

/-! ### The cursor -/

/-- `CUR` goes up by `STRIDE` where the step runs an ADV, and stays otherwise (R176). -/
theorem StepCase.cur_eq (h : StepCase s t) : t.cur = s.cur + if s.advNext then s.cfg.stride else 0 := by
  cases h with
  | adv hs hf => simp [State.advNext, hs, hf]
  | exhausted hs => obtain hs | hs := hs <;> simp [State.advNext, hs]
  | notConfigured hs _ hf => obtain hf | ⟨c, e, v, hf⟩ := hf <;> simp [State.advNext, hs, hf]
  | _ => simp [State.advNext, *]

/-- A run of `k + 1` steps is a step and a run of `k`, and the step is counted if it runs an ADV. -/
theorem exists_step_of_runs_succ {k : Nat} (h : runs (k + 1) s = some t) :
    ∃ u, step s = .next u ∧ runs k u = some t ∧ advances (k + 1) s = (if s.advNext then 1 else 0) + advances k u := by
  cases hu : step s with
  | next u => exact ⟨u, rfl, by simpa [runs, hu] using h, by simp [advances, hu]⟩
  | fault r => simp [runs, hu] at h
  | refused r => simp [runs, hu] at h

/-- `CUR` over a run, as a word (R188). -/
theorem cur_of_runs {k : Nat} (h : runs k s = some t) : t.cur = s.cur + BitVec.ofNat 32 (advances k s) * s.cfg.stride := by
  induction k generalizing s with
  | zero => cases h; simp [advances]
  | succ k ih =>
    obtain ⟨u, hstep, hrun, hadv⟩ := exists_step_of_runs_succ h
    have hc := step_cases s u hstep
    rw [ih hrun, hadv, hc.cur_eq, hc.keeps_config.1, BitVec.ofNat_add, BitVec.add_mul, BitVec.add_assoc]
    split <;> simp

/-! ### The terminal sub-states -/

theorem StepCase.not_terminal (h : StepCase s t) : s.sub.terminal = false := by
  cases h with
  | exhausted hs => obtain hs | hs := hs <;> rw [hs] <;> rfl
  | _ => simp [*, Sub.terminal]

/-- HALTED is entered by STOP alone (R163, R180). -/
theorem StepCase.stops_of_halted (h : StepCase s t) (ht : t.sub = .halted) : s.sub = .fetch ∧ s.fetched = some .stop := by
  cases h with
  | stop hs hf => exact ⟨hs, hf⟩
  | _ => nomatch ht

/-! ### A next step -/

/-- Only BAUD_SWITCH on a configured channel keeps an operation from a next state (R95). -/
theorem exec_next {i : Instr} (h : ¬ (s.chcfg = true ∧ ∃ e v, i = .exe .baudSwitch e v)) : ∃ t, exec i s = .next t := by
  obtain hnext | ⟨c, e, v, rfl⟩ := exec_next_or_exe i s
  · exact hnext
  · simp only [exec, execExe]
    split_ifs with hcfg hc
    · exact ⟨_, rfl⟩
    · exact absurd ⟨by simpa using hcfg, e, v, by rw [hc]⟩ h
    · exact ⟨_, rfl⟩

theorem fetchStep_next (h : ¬ (s.chcfg = true ∧ ∃ e v, s.fetched = some (.exe .baudSwitch e v))) :
    ∃ t, fetchStep s = .next t := by
  cases hf : s.fetched with
  | none => obtain ⟨-, e⟩ | ⟨-, e⟩ := fetchStep_not_fetched s hf <;> exact ⟨_, e⟩
  | some i =>
    rw [fetchStep_fetched s i hf]
    exact exec_next (by simpa [hf] using h)

/-- Where every cell below `RLEN` holds a byte, X_MATCH reads no missing one (R24, R67). -/
theorem xMatch_next (h : ∀ i, (s.rxbuf.read i).isSome = true ↔ i < s.rlen.toNat) : ∃ t, xMatch s = .next t := by
  have hcell : ∀ i, s.rxbuf.read i = none → ¬ i < s.rlen.toNat := fun i hi hlt => by simpa [hi] using (h i).2 hlt
  cases hp : printMatch s (lengthMatches s.rlen s.exp) with
  | some u => exact ⟨_, by rw [xMatch, hp]⟩
  | none =>
    rw [printMatch_eq_none_iff, printVerbose_eq_none_iff, printSilent_eq_none_iff] at hp
    obtain ⟨-, i, hi, hlt⟩ | ⟨-, -, i, hi, -, hlt⟩ := hp
    · exact absurd hlt (hcell i hi)
    · exact absurd (Nat.lt_of_succ_lt hlt) (hcell i hi)

end Sys2Proof.Machine

open Sys2Proof Sys2Proof.Machine

/-- Settles O41: the word equation of a run, read as numbers. -/
theorem cursorLaw : Obligations.CursorLaw := by
  intro k s t hrun
  rw [cur_of_runs hrun, BitVec.toNat_add, BitVec.toNat_mul, BitVec.toNat_ofNat, Nat.mod_mul_mod, Nat.add_mod_mod]

/-- Settles O43: no way of a step starts in a terminal sub-state, and one lemma each says who enters them. -/
theorem terminalSubStates : Obligations.TerminalSubStates := by
  refine ⟨fun s t hterm hstep => ?leaves, fun s t hstep => ⟨fun ht => ?halted, fun ht => ?faulted⟩⟩
  case leaves => simp [(step_cases s t hstep).not_terminal] at hterm
  case halted => exact (step_cases s t hstep).stops_of_halted ht
  case faulted =>
    obtain ⟨-, -, hne⟩ | ⟨hf, hpc, -⟩ := (step_cases s t hstep).fault_cases
    · exact absurd ht hne
    · exact ⟨hf, hpc⟩

/-- Settles O51: FETCH refuses BAUD_SWITCH alone, X_MATCH finds the bytes the invariant promises, and every other step is
total. -/
theorem stepGoesOn : Obligations.StepGoesOn := by
  intro s hi hterm hbaud
  rw [step_unmarked s hi.admitted.1]
  cases hsub : s.sub with
  | fetch =>
    simp only [subStep, hsub]
    exact fetchStep_next fun h => hbaud ⟨hsub, h⟩
  | xMatch =>
    simp only [subStep, hsub]
    exact xMatch_next hi.rxCells
  | halted | faulted => simp [hsub, Sub.terminal] at hterm
  | _ => exact ⟨_, by simp only [subStep, hsub]; rfl⟩
end

section
/-! Faults and the way out of them: what a step that enters FAULTED writes (60_exceptions.md R203), the cause of each code
(R201), and the host's reset (R204; 70_reset_and_hazards.md R230, R231). -/

namespace Sys2Proof.Machine

variable {s t : State}

/-- There is no word to fetch exactly where `SEQ_PC` has passed the ROM (R161). -/
theorem fetchWord_eq_none_iff : s.fetchWord = none ↔ s.cfg.romLen ≤ s.seqPc.toNat := List.getElem?_eq_none_iff

theorem seqPc_lt_of_fetchWord {w : Word} (h : s.fetchWord = some w) : s.seqPc.toNat < s.cfg.romLen :=
  not_le.1 fun hle => by simp [fetchWord_eq_none_iff.2 hle] at h

/-- Where a run overruns the ROM, it stands at `ROM_LEN`: no write to `SEQ_PC` goes further (R27). -/
theorem State.Inv.seqPc_eq_romLen (hi : s.Inv) (hw : s.fetchWord = none) : s.seqPc.toNat = s.cfg.romLen :=
  le_antisymm hi.pcLegal (fetchWord_eq_none_iff.1 hw)

/-- A step enters FAULTED by fault entry from the state before it, or from the state CFG's failed configure leaves (R203). -/
theorem StepCase.eq_raiseFault_of_faulted (h : StepCase s t) (ht : t.sub = .faulted) :
    (∃ code, t = s.raiseFault code ∧ code ≠ .none ∧ code ≠ .configFatal) ∨
    (t = s.chConfigure.raiseFault .configFatal ∧ s.chan.cfgAnswer = .fail) := by
  cases h with
  | overrun | illegal | notConfigured | reconfig | exhausted => exact .inl ⟨_, rfl, nofun, nofun⟩
  | cfgFail _ _ _ ha => exact .inr ⟨rfl, ha⟩
  | _ => nomatch ht

end Sys2Proof.Machine

open Sys2Proof Sys2Proof.Machine

/-- Settles O45: fault entry is precise, and only CONFIG_FATAL enters from a state other than the one before the step, its
configure's. -/
theorem faultsArePrecise : Obligations.FaultsArePrecise := by
  intro s t hstep ht
  obtain ⟨code, rfl, hnone, hfatal⟩ | ⟨rfl, hfail⟩ := (step_cases s t hstep).eq_raiseFault_of_faulted ht
  · obtain ⟨-, hpc, -, hregs, hrx, hcfg, hconsole, hchan, -⟩ := raiseFault_faultEntry s code
    exact ⟨hnone, hpc, hregs, hrx, hcfg, hconsole, fun h => absurd h hfatal, fun _ => ⟨rfl, hchan⟩⟩
  · obtain ⟨-, hpc, -, hregs, hrx, hcfg, hconsole, -⟩ := raiseFault_faultEntry s.chConfigure .configFatal
    exact ⟨nofun, hpc, (chConfigure_keepsRegs s).trans hregs, hrx, hcfg, hconsole, fun _ => by simp [hfail],
      fun h => absurd rfl h⟩

/-- Settles O46: each way of a step into FAULTED carries its cause; the two of FETCH without a descriptor differ in whether
`SEQ_PC` has passed the ROM. -/
theorem faultCauses : Obligations.FaultCauses := by
  intro s t hstep ht
  cases step_cases s t hstep with
  | cfgFail hs hf hcfg hfail => exact ⟨rfl, .inl ⟨rfl, hs, hf, hcfg, hfail, by simp [hfail]⟩⟩
  | illegal w hs hw hf => exact ⟨rfl, .inr (.inl ⟨rfl, hs, seqPc_lt_of_fetchWord hw, hf⟩)⟩
  | overrun hs hw =>
    exact ⟨rfl, .inr (.inr (.inl ⟨rfl, hs, fetchWord_eq_none_iff.1 hw, fun hi => hi.seqPc_eq_romLen hw⟩))⟩
  | notConfigured hs hcfg hf => exact ⟨rfl, .inr (.inr (.inr (.inl ⟨rfl, hs, hcfg, hf⟩)))⟩
  | reconfig hs hf hcfg => exact ⟨rfl, .inr (.inr (.inr (.inr (.inl ⟨rfl, hs, hcfg, hf⟩))))⟩
  | exhausted hs hlimit hcount => exact ⟨rfl, .inr (.inr (.inr (.inr (.inr ⟨rfl, hs, hlimit, hcount⟩))))⟩
  | _ => nomatch ht

/-- Settles O44: `hostReset` is the reset state but for the channel, and the reset state's own channel is idle. -/
theorem hostResetRestarts : Obligations.HostResetRestarts := fun _ => ⟨rfl, rfl⟩
end
